-- ==== Sys2Proof/Word.lean ====
section
/-! DEFINITION. The word types of the block (00_scope.md R11) and its fixed-size byte arrays (20_memory.md R70, R71). -/

namespace Sys2Proof

/-- `u8` of R11. -/
abbrev Byte := BitVec 8

/-- `u16` of R11. -/
abbrev Half := BitVec 16

/-- An 8-byte command frame, byte 0 first on the wire (R93). -/
abbrev Frame8 := Vector Byte 8

/-- The four characters of an address register, first character first (R74). -/
abbrev Addr4 := Vector Byte 4

/-- The five slots of the group set or of the scene table (R38, R40). -/
abbrev Slots5 := Vector Byte 5

/-- The 27-byte configuration image (R43). -/
abbrev Image := Vector Byte 27

/-- A percentage 0..99, the domain of the dimming engine (R210). -/
abbrev Percent := Fin 100

end Sys2Proof
end

