-- ==== Sys2Proof/Config.lean ====
section
/-! DEFINITION. The constants and the implementation parameters of 00_scope.md R8: what the spec fixes is a
definition, what it leaves OPEN is a field of `Params`, and the parameters of the machine at reset are the opaque
constant `Config.params`. -/

namespace Sys2Proof

/-- The 38 command names (R105), in catalogue order (R104). -/
inductive Cmd where
  | setHostAddr | resetHostAddr | setPollAddr | setSensingFreq | setTimeout | setPowerOnLevel | setLevel
  | setFadeRate | setFadeDelay | setGroup | getGroup | clearGroup | setScene | getScene | gotoScene | clearScene
  | storeLisGroup | getLisGroup | clearLisGroup | commission | decommission | identify | writeFlash
  | getSensorData | clearCount | relayOn | relayOff | disableSensor | enableSensor | factoryReset | getSettings
  | enableRequestMode | getTimeout | getPercentage | getGroupCount | getHealth | getOwnAddress | cmd38
deriving DecidableEq, Repr, Inhabited

/-- Every command name once, in catalogue order (R104, R105). -/
def Cmd.all : List Cmd :=
  [.setHostAddr, .resetHostAddr, .setPollAddr, .setSensingFreq, .setTimeout, .setPowerOnLevel, .setLevel,
   .setFadeRate, .setFadeDelay, .setGroup, .getGroup, .clearGroup, .setScene, .getScene, .gotoScene, .clearScene,
   .storeLisGroup, .getLisGroup, .clearLisGroup, .commission, .decommission, .identify, .writeFlash,
   .getSensorData, .clearCount, .relayOn, .relayOff, .disableSensor, .enableSensor, .factoryReset, .getSettings,
   .enableRequestMode, .getTimeout, .getPercentage, .getGroupCount, .getHealth, .getOwnAddress, .cmd38]

/-- The template kinds of R96. -/
inductive Kind where
  | lit | hex4 | num2 | par1
deriving DecidableEq, Repr, Inhabited

/-- One record of the template table (R100). `pre` is the record's `prefix`, the P literal bytes. -/
structure Template where
  id   : Nat
  name : Cmd
  kind : Kind
  P    : Nat
  pre  : List Byte
deriving DecidableEq, Repr, Inhabited

/-- `IDLE_EXPIRY_AFTER_COMPLETE` (R8, D6): what the idle-gap timer does after an 8-byte completion. -/
inductive IdleExpiry where
  | disarm | runOut
deriving DecidableEq, Repr, Inhabited

/-- A function from register values to tick counts as plain data: the listed values, and one count for all the
others (log 10). -/
structure TickTable where
  rows  : List (Nat × Nat)
  other : Nat
deriving DecidableEq, Repr, Inhabited

/-- The persistent field set, exactly (R42); the block's mirror of it holds these registers (R30-R38, R40, R41). -/
structure Persistent where
  sensingPeriod : Byte
  maxTimeout    : Byte
  hostAddr      : Addr4
  pollAddr      : Addr4
  commissioned  : Bool
  fadeRate      : Byte
  fadeDelay     : Half
  powerOnLevel  : Byte
  groups        : Slots5
  scenes        : Slots5
  lisMode       : Bool
  lisGroup      : Byte
deriving DecidableEq, Repr, Inhabited

/-- The OPEN parameters of R8, as plain data. `RESPONDS(id)` is false exactly on `silentIds` and
`RESP_ADDR_SEL(id)` is Poll exactly on `pollIds` (log 9), so empty lists are the spec's defaults; `defaults`
holds DEFAULT_<field> for every persistent field (R45). -/
structure Params where
  templates      : List Template
  idleGapTicks   : Nat
  identGapTicks  : Nat
  idleExpiry     : IdleExpiry
  ownAddr        : Option Byte
  silentIds      : List Byte
  pollIds        : List Byte
  minuteTicks    : Nat
  sampleWindow   : TickTable
  fadeDelayTable : TickTable
  defaults       : Persistent
deriving DecidableEq, Repr, Inhabited

namespace Config

/-- `FRAME_LEN` (R8). -/
def frameLen : Nat := 8

/-- `PAYLOAD_LEN` (R8). -/
def payloadLen : Nat := 7

/-- `IDENT_LEN` (R8). -/
def identLen : Nat := 4

/-- `NUM_TEMPLATES` (R8). -/
def numTemplates : Nat := 38

/-- `BROADCAST` = 254 (R8, R94). -/
def broadcast : Byte := 0xFE#8

/-- `GROUP_SLOTS` (R8). -/
def groupSlots : Nat := 5

/-- `SCENE_SLOTS` (R8). -/
def sceneSlots : Nat := 5

/-- `GROUP_EMPTY` = 0xFF (R8, R38). -/
def groupEmpty : Byte := 0xFF#8

/-- `SCENE_UNSET` = 99 (R8, R40). -/
def sceneUnset : Byte := 99#8

/-- `MAX_DUTY` = 3333 (R8); the PWM period of a collaborator, which no rule of the block reads (R211). -/
def maxDuty : Nat := 3333

/-- `OFF_DUTY` = 3300 (R8, R214). -/
def offDuty : Half := 3300#16

/-- `DEBOUNCE_THRESHOLD` = 1 (R8, R50). -/
def debounceThreshold : Nat := 1

/-- `NONE` = 0xFF, the dedupe value that is no command id (R28, R101). -/
def noId : Byte := 0xFF#8

/-- The erase sentinel 0xFF of the non-volatile store (R43, R372). -/
def erased : Byte := 0xFF#8

/-- The parameters of the machine that `State.reset` describes: OPEN (R8), so nothing is known of them (log 1). -/
opaque params : Params

/-- The image the non-volatile store delivers at reset (`CfgImage`, R66): any value (I25 of
93_implementation_defined.md, log 2). -/
opaque cfgImage : Image

end Config

end Sys2Proof
end

