-- ==== Sys2Proof/Syntax.lean ====
section
/-! DEFINITION. The instructions of the block: one constructor per row of spec/opcode_table.json. A command carries
the bytes its row's fields name (R93, R97, R98): `hi` and `lo` are frame bytes 5 and 6, `a0`..`a3` frame bytes 3..6,
`addr` frame byte 7. -/

namespace Sys2Proof

/-- A decoded command frame, or an identity frame. -/
inductive Instr where
  | setHostAddr (a0 a1 a2 a3 addr : Byte)
  | resetHostAddr (addr : Byte)
  | setPollAddr (a0 a1 a2 a3 addr : Byte)
  | setSensingFreq (hi lo addr : Byte)
  | setTimeout (hi lo addr : Byte)
  | setPowerOnLevel (hi lo addr : Byte)
  | setLevel (hi lo addr : Byte)
  | setFadeRate (hi lo addr : Byte)
  | setFadeDelay (hi lo addr : Byte)
  | setGroup (hi lo addr : Byte)
  | getGroup (addr : Byte)
  | clearGroup (addr : Byte)
  | setScene (hi lo addr : Byte)
  | getScene (hi lo addr : Byte)
  | gotoScene (hi lo addr : Byte)
  | clearScene (hi lo addr : Byte)
  | storeLisGroup (hi lo addr : Byte)
  | getLisGroup (addr : Byte)
  | clearLisGroup (addr : Byte)
  | commission (addr : Byte)
  | decommission (addr : Byte)
  | identify (addr : Byte)
  | writeFlash (addr : Byte)
  | getSensorData (addr : Byte)
  | clearCount (addr : Byte)
  | relayOn (addr : Byte)
  | relayOff (addr : Byte)
  | disableSensor (addr : Byte)
  | enableSensor (addr : Byte)
  | factoryReset (addr : Byte)
  | getSettings (addr : Byte)
  | enableRequestMode (addr : Byte)
  | getTimeout (addr : Byte)
  | getPercentage (addr : Byte)
  | getGroupCount (addr : Byte)
  | getHealth (addr : Byte)
  | getOwnAddress (addr : Byte)
  | cmd38 (addr : Byte)
  | identityFrame (i0 i1 i2 i3 : Byte)
deriving DecidableEq, Repr

/-- The bytes an instruction carries, in wire order. -/
def Instr.bytes : Instr → List Byte
  | .setHostAddr a0 a1 a2 a3 addr => [a0, a1, a2, a3, addr]
  | .resetHostAddr addr => [addr]
  | .setPollAddr a0 a1 a2 a3 addr => [a0, a1, a2, a3, addr]
  | .setSensingFreq hi lo addr => [hi, lo, addr]
  | .setTimeout hi lo addr => [hi, lo, addr]
  | .setPowerOnLevel hi lo addr => [hi, lo, addr]
  | .setLevel hi lo addr => [hi, lo, addr]
  | .setFadeRate hi lo addr => [hi, lo, addr]
  | .setFadeDelay hi lo addr => [hi, lo, addr]
  | .setGroup hi lo addr => [hi, lo, addr]
  | .getGroup addr => [addr]
  | .clearGroup addr => [addr]
  | .setScene hi lo addr => [hi, lo, addr]
  | .getScene hi lo addr => [hi, lo, addr]
  | .gotoScene hi lo addr => [hi, lo, addr]
  | .clearScene hi lo addr => [hi, lo, addr]
  | .storeLisGroup hi lo addr => [hi, lo, addr]
  | .getLisGroup addr => [addr]
  | .clearLisGroup addr => [addr]
  | .commission addr => [addr]
  | .decommission addr => [addr]
  | .identify addr => [addr]
  | .writeFlash addr => [addr]
  | .getSensorData addr => [addr]
  | .clearCount addr => [addr]
  | .relayOn addr => [addr]
  | .relayOff addr => [addr]
  | .disableSensor addr => [addr]
  | .enableSensor addr => [addr]
  | .factoryReset addr => [addr]
  | .getSettings addr => [addr]
  | .enableRequestMode addr => [addr]
  | .getTimeout addr => [addr]
  | .getPercentage addr => [addr]
  | .getGroupCount addr => [addr]
  | .getHealth addr => [addr]
  | .getOwnAddress addr => [addr]
  | .cmd38 addr => [addr]
  | .identityFrame i0 i1 i2 i3 => [i0, i1, i2, i3]

/-- The command an instruction is, and none for the identity frame, which does not go through the dispatcher
(R128). -/
def Instr.cmd : Instr → Option Cmd
  | .setHostAddr .. => some .setHostAddr
  | .resetHostAddr _ => some .resetHostAddr
  | .setPollAddr .. => some .setPollAddr
  | .setSensingFreq .. => some .setSensingFreq
  | .setTimeout .. => some .setTimeout
  | .setPowerOnLevel .. => some .setPowerOnLevel
  | .setLevel .. => some .setLevel
  | .setFadeRate .. => some .setFadeRate
  | .setFadeDelay .. => some .setFadeDelay
  | .setGroup .. => some .setGroup
  | .getGroup _ => some .getGroup
  | .clearGroup _ => some .clearGroup
  | .setScene .. => some .setScene
  | .getScene .. => some .getScene
  | .gotoScene .. => some .gotoScene
  | .clearScene .. => some .clearScene
  | .storeLisGroup .. => some .storeLisGroup
  | .getLisGroup _ => some .getLisGroup
  | .clearLisGroup _ => some .clearLisGroup
  | .commission _ => some .commission
  | .decommission _ => some .decommission
  | .identify _ => some .identify
  | .writeFlash _ => some .writeFlash
  | .getSensorData _ => some .getSensorData
  | .clearCount _ => some .clearCount
  | .relayOn _ => some .relayOn
  | .relayOff _ => some .relayOff
  | .disableSensor _ => some .disableSensor
  | .enableSensor _ => some .enableSensor
  | .factoryReset _ => some .factoryReset
  | .getSettings _ => some .getSettings
  | .enableRequestMode _ => some .enableRequestMode
  | .getTimeout _ => some .getTimeout
  | .getPercentage _ => some .getPercentage
  | .getGroupCount _ => some .getGroupCount
  | .getHealth _ => some .getHealth
  | .getOwnAddress _ => some .getOwnAddress
  | .cmd38 _ => some .cmd38
  | .identityFrame .. => none

end Sys2Proof
end

