-- ==== Sys2Proof/Decode.lean ====
section
/-! DEFINITION. Decoding of frames (30_encoding.md): the byte filter's set, the template table check, the prefix
matcher, the fields of each command, and after them the encoder. The table is an argument, since its bytes are the
OPEN parameter TEMPLATES (R100). -/

namespace Sys2Proof

/-- `b ∈ FILTERED_BYTES` = 0x00, 0x0A, 0x0D, 0xFF (R8, R92). -/
def isFiltered (b : Byte) : Bool :=
  b == 0x00#8 || b == 0x0A#8 || b == 0x0D#8 || b == 0xFF#8

/-- The seven payload bytes of a frame (R93). -/
def payload (f : Frame8) : List Byte :=
  [f[0], f[1], f[2], f[3], f[4], f[5], f[6]]

/-- The template test: for all j < P, payload byte j equals prefix byte j (R156). -/
def Template.accepts (t : Template) (p : List Byte) : Bool :=
  (List.range t.P).all fun j => p[j]? == t.pre[j]?

/-- `match(p)`: the first template in table order that accepts the payload (R157). -/
def matchTemplate (ts : List Template) (p : List Byte) : Option Template :=
  ts.find? fun t => t.accepts p

/-- The command id of a command: the id of its template, which is its position in a table that passes the check
(R101, R102). A name the table does not hold has no id; a table that passes the check holds every name (log 13). -/
def idOf (ts : List Template) (c : Cmd) : Byte :=
  match ts.find? fun t => t.name == c with
  | some t => BitVec.ofNat 8 t.id
  | none => Config.noId

/-- The prefix lengths a kind allows (R96, R102 check 3). -/
def Kind.allows : Kind → Nat → Bool
  | .lit, n => n == 4 || n == 6 || n == 7
  | .hex4, n => n == 3
  | .num2, n => n == 5
  | .par1, n => n == 6

/-- Checks 2 to 4 of R102 on one template. -/
def Template.ok (t : Template) : Bool :=
  t.pre.length == t.P && t.pre[0]? == some 0x41#8 && t.pre[1]? == some 0x44#8 && t.kind.allows t.P &&
    t.pre.all fun b => !isFiltered b

/-- The SET_LEVEL row is the one R100 fixes: prefix 'A' 'D' 'S' 'P' 'L', kind Num2. -/
def setLevelRowOk (ts : List Template) : Bool :=
  ts.any fun t => t.name == .setLevel && t.kind == .num2 && t.pre == [0x41#8, 0x44#8, 0x53#8, 0x50#8, 0x4C#8]

/-- The table check of R102. -/
def tableOk (ts : List Template) : Bool :=
  ts.map (·.id) == List.range Config.numTemplates && ts.all Template.ok &&
    (Cmd.all.all fun c => ts.countP (·.name == c) == 1) && setLevelRowOk ts

/-- The kind the spec gives each command by default (R104). -/
def Cmd.usualKind : Cmd → Kind
  | .setHostAddr | .setPollAddr => .hex4
  | .setSensingFreq | .setTimeout | .setPowerOnLevel | .setLevel | .setFadeRate | .setFadeDelay | .setGroup
  | .setScene | .getScene | .gotoScene | .clearScene | .storeLisGroup => .num2
  | .resetHostAddr | .getGroup | .clearGroup | .getLisGroup | .clearLisGroup | .commission | .decommission
  | .identify | .writeFlash | .getSensorData | .clearCount | .relayOn | .relayOff | .disableSensor | .enableSensor
  | .factoryReset | .getSettings | .enableRequestMode | .getTimeout | .getPercentage | .getGroupCount | .getHealth
  | .getOwnAddress | .cmd38 => .lit

/-- Every row has the kind R104 gives its command. -/
def usualKinds (ts : List Template) : Bool :=
  ts.all fun t => t.kind == t.name.usualKind

/-- No row's prefix is a prefix of another row's. R102 does not ask for this; where it fails, the earlier row may
hide the later one (R157). -/
def prefixFree (ts : List Template) : Bool :=
  ts.all fun t => ts.all fun u => t.id == u.id || !t.pre.isPrefixOf u.pre

/-- The instruction of a command's frame: each field at the offset its row gives it (R97, R98, and the `fields` of
spec/opcode_table.json), whatever the kind of the row that matched (log 18). -/
def Instr.ofFrame (c : Cmd) (f : Frame8) : Instr :=
  match c with
  | .setHostAddr => .setHostAddr f[3] f[4] f[5] f[6] f[7]
  | .resetHostAddr => .resetHostAddr f[7]
  | .setPollAddr => .setPollAddr f[3] f[4] f[5] f[6] f[7]
  | .setSensingFreq => .setSensingFreq f[5] f[6] f[7]
  | .setTimeout => .setTimeout f[5] f[6] f[7]
  | .setPowerOnLevel => .setPowerOnLevel f[5] f[6] f[7]
  | .setLevel => .setLevel f[5] f[6] f[7]
  | .setFadeRate => .setFadeRate f[5] f[6] f[7]
  | .setFadeDelay => .setFadeDelay f[5] f[6] f[7]
  | .setGroup => .setGroup f[5] f[6] f[7]
  | .getGroup => .getGroup f[7]
  | .clearGroup => .clearGroup f[7]
  | .setScene => .setScene f[5] f[6] f[7]
  | .getScene => .getScene f[5] f[6] f[7]
  | .gotoScene => .gotoScene f[5] f[6] f[7]
  | .clearScene => .clearScene f[5] f[6] f[7]
  | .storeLisGroup => .storeLisGroup f[5] f[6] f[7]
  | .getLisGroup => .getLisGroup f[7]
  | .clearLisGroup => .clearLisGroup f[7]
  | .commission => .commission f[7]
  | .decommission => .decommission f[7]
  | .identify => .identify f[7]
  | .writeFlash => .writeFlash f[7]
  | .getSensorData => .getSensorData f[7]
  | .clearCount => .clearCount f[7]
  | .relayOn => .relayOn f[7]
  | .relayOff => .relayOff f[7]
  | .disableSensor => .disableSensor f[7]
  | .enableSensor => .enableSensor f[7]
  | .factoryReset => .factoryReset f[7]
  | .getSettings => .getSettings f[7]
  | .enableRequestMode => .enableRequestMode f[7]
  | .getTimeout => .getTimeout f[7]
  | .getPercentage => .getPercentage f[7]
  | .getGroupCount => .getGroupCount f[7]
  | .getHealth => .getHealth f[7]
  | .getOwnAddress => .getOwnAddress f[7]
  | .cmd38 => .cmd38 f[7]

/-- Why bytes are no instruction: their number is neither of the two frame lengths (R107), or no template accepts
the payload (R106, R158). -/
inductive DecodeError where
  | badLength
  | noTemplate
deriving DecidableEq, Repr

/-- The instruction of a complete 8-byte frame (R93, R156, R157). -/
def decodeFrame (ts : List Template) (f : Frame8) : Except DecodeError Instr :=
  match matchTemplate ts (payload f) with
  | some t => .ok (Instr.ofFrame t.name f)
  | none => .error .noTemplate

/-- The instruction of a sequence of accepted bytes: eight are a command frame, four an identity frame, and there is
no other length (R107). Bytes are not tested against the filter here: it stands before the assembler (R92, R120). -/
def decode (ts : List Template) : List Byte → Except DecodeError Instr
  | [b0, b1, b2, b3, b4, b5, b6, b7] => decodeFrame ts #v[b0, b1, b2, b3, b4, b5, b6, b7]
  | [b0, b1, b2, b3] => .ok (.identityFrame b0 b1 b2 b3)
  | _ => .error .badLength

/-- Byte i of an instruction word numbered as spec/opcode_table.json numbers it: bits 8i+7..8i, first byte on the
wire lowest. -/
def wordByte (w i : Nat) : Byte :=
  BitVec.ofNat 8 (w / 256 ^ i)

/-- The eight wire bytes of a table word. -/
def wordFrame (w : Nat) : Frame8 :=
  #v[wordByte w 0, wordByte w 1, wordByte w 2, wordByte w 3, wordByte w 4, wordByte w 5, wordByte w 6, wordByte w 7]

/-- The wire bytes of a table word of `nbits` bits: the four of an identity frame for 32 bits, else the eight of a
command frame (log 15). -/
def wordBytes (nbits w : Nat) : List Byte :=
  if nbits = 32 then [wordByte w 0, wordByte w 1, wordByte w 2, wordByte w 3] else (wordFrame w).toList

/-- The instruction the decoder reads from a table word, under a given template table. -/
def decodeWordWith (ts : List Template) (nbits w : Nat) : Option Instr :=
  match decode ts (wordBytes nbits w) with
  | .ok i => some i
  | .error _ => none

/-- The instruction the decoder reads from a table word, under the OPEN template table (R8). -/
def decodeTableWord (nbits w : Nat) : Option Instr :=
  decodeWordWith Config.params.templates nbits w

/-! The encoder. -/

/-- The byte the encoder puts where a short literal template examines none: 'A', which is not filtered. The spec
gives no such byte (R109, log 14). -/
def padByte : Byte := 0x41#8

/-- The payload bytes 5 and 6 of a Num2 command (R96). -/
def num2Byte (hi lo : Byte) : Nat → Byte
  | 5 => hi
  | 6 => lo
  | _ => padByte

/-- The payload bytes 3 to 6 of a Hex4 command (R96). -/
def hex4Byte (a0 a1 a2 a3 : Byte) : Nat → Byte
  | 3 => a0
  | 4 => a1
  | 5 => a2
  | 6 => a3
  | _ => padByte

/-- The payload byte an instruction has at an offset that its template's prefix does not cover. -/
def Instr.paramByte (i : Instr) (j : Nat) : Byte :=
  match i with
  | .setHostAddr a0 a1 a2 a3 _ | .setPollAddr a0 a1 a2 a3 _ => hex4Byte a0 a1 a2 a3 j
  | .setSensingFreq hi lo _ | .setTimeout hi lo _ | .setPowerOnLevel hi lo _ | .setLevel hi lo _
  | .setFadeRate hi lo _ | .setFadeDelay hi lo _ | .setGroup hi lo _ | .setScene hi lo _ | .getScene hi lo _
  | .gotoScene hi lo _ | .clearScene hi lo _ | .storeLisGroup hi lo _ => num2Byte hi lo j
  | .resetHostAddr _ | .getGroup _ | .clearGroup _ | .getLisGroup _ | .clearLisGroup _ | .commission _
  | .decommission _ | .identify _ | .writeFlash _ | .getSensorData _ | .clearCount _ | .relayOn _ | .relayOff _
  | .disableSensor _ | .enableSensor _ | .factoryReset _ | .getSettings _ | .enableRequestMode _ | .getTimeout _
  | .getPercentage _ | .getGroupCount _ | .getHealth _ | .getOwnAddress _ | .cmd38 _
  | .identityFrame _ _ _ _ => padByte

/-- The last byte of an instruction: the destination address of a command (R93). -/
def Instr.lastByte (i : Instr) : Byte :=
  i.bytes.getLastD padByte

/-- The frame of a command under its template: the prefix, then the parameter bytes, then the address (R93, R96,
R108). -/
def encodeFrame (t : Template) (i : Instr) : Frame8 :=
  let at_ := fun j => (t.pre[j]?).getD (i.paramByte j)
  #v[at_ 0, at_ 1, at_ 2, at_ 3, at_ 4, at_ 5, at_ 6, i.lastByte]

/-- The wire bytes of an instruction (R107, R108); none for a command whose name the table does not hold. -/
def encode (ts : List Template) (i : Instr) : List Byte :=
  match i.cmd with
  | none => i.bytes
  | some c =>
    match ts.find? fun t => t.name == c with
    | some t => (encodeFrame t i).toList
    | none => []

end Sys2Proof
end

