-- ==== Sys2Proof/Machine/Params.lean ====
section
/-! DEFINITION. The functions of 00_scope.md R8 that the parameters give, and the well-formedness a configuration must
have before any step (R9, 30_encoding.md R102, 70_reset_and_hazards.md R376). -/

namespace Sys2Proof

/-- The tick count the table gives a register value (log 10). -/
def TickTable.ticks (t : TickTable) (v : Nat) : Nat :=
  match t.rows.find? fun r => r.1 == v with
  | some r => r.2
  | none => t.other

/-- `SAMPLE_WINDOW_TICKS` (R8). -/
def Params.sampleWindowTicks (p : Params) (v : Byte) : Nat :=
  p.sampleWindow.ticks v.toNat

/-- `FADE_DELAY_TICKS` (R8). -/
def Params.fadeDelayTicks (p : Params) (v : Half) : Nat :=
  p.fadeDelayTable.ticks v.toNat

/-- `RESPONDS` (R8, R164). -/
def Params.responds (p : Params) (id : Byte) : Bool :=
  !p.silentIds.contains id

/-- The id a command has under these parameters (R101). -/
def Params.idOf (p : Params) (c : Cmd) : Byte :=
  Sys2Proof.idOf p.templates c

/-- The defaults are well formed (R376): the fixed ones are those of R45. A flag's default is 0 or 1 by its type. -/
def Persistent.defaultsOk (d : Persistent) : Bool :=
  d.groups == #v[Config.groupEmpty, Config.groupEmpty, Config.groupEmpty, Config.groupEmpty, Config.groupEmpty] &&
    d.scenes == #v[Config.sceneUnset, Config.sceneUnset, Config.sceneUnset, Config.sceneUnset, Config.sceneUnset] &&
    d.lisGroup == Config.groupEmpty

/-- The configuration is well formed (R9). -/
def Params.wf (p : Params) : Bool :=
  decide (1 ≤ p.idleGapTicks) && decide (1 ≤ p.identGapTicks) && decide (1 ≤ p.minuteTicks) &&
    ((List.range 256).all fun v => decide (1 ≤ p.sampleWindowTicks (BitVec.ofNat 8 v))) &&
    tableOk p.templates && p.defaults.defaultsOk

end Sys2Proof
end

