-- ==== Sys2Proof/Machine/Image.lean ====
section
/-! DEFINITION. The configuration image: its layout (10_state.md R43, R44), the load at reset (70_reset_and_hazards.md
R372) and the image a commit carries (46_system.md R320). -/

namespace Sys2Proof

/-- A one-byte field takes its default iff its byte is erased (R372). -/
def loadByte (dflt b : Byte) : Byte :=
  if b = Config.erased then dflt else b

/-- A one-bit field takes its default iff its byte is erased, and reads 1 from any byte but 0x00 and 0xFF (R44,
R372). -/
def loadBit (dflt : Bool) (b : Byte) : Bool :=
  if b = Config.erased then dflt else b != 0x00#8

/-- The byte of a one-bit field (R44, R320). -/
def bitByte (x : Bool) : Byte :=
  if x then 0x01#8 else 0x00#8

/-- A four-byte field takes its default iff all its bytes are erased (R372). -/
def loadAddr (dflt a : Addr4) : Addr4 :=
  if a = #v[Config.erased, Config.erased, Config.erased, Config.erased] then dflt else a

/-- The fade delay takes its default iff both its bytes are erased; its high byte comes first (R372). -/
def loadHalf (dflt : Half) (high low : Byte) : Half :=
  if high = Config.erased ∧ low = Config.erased then dflt else high ++ low

/-- Bits 15..8 of the fade delay (R43). -/
def highByte (h : Half) : Byte :=
  BitVec.extractLsb' 8 8 h

/-- Bits 7..0 of the fade delay (R43). -/
def lowByte (h : Half) : Byte :=
  BitVec.extractLsb' 0 8 h

/-- Five one-byte fields, each a field of its own (R372). -/
def loadSlots (dflt s : Slots5) : Slots5 :=
  #v[loadByte dflt[0] s[0], loadByte dflt[1] s[1], loadByte dflt[2] s[2], loadByte dflt[3] s[3], loadByte dflt[4] s[4]]

/-- `load(img)` with the compiled-in defaults (R372), at the offsets of R43. -/
def loadImage (dflt : Persistent) (img : Image) : Persistent where
  sensingPeriod := loadByte dflt.sensingPeriod img[0]
  maxTimeout := loadByte dflt.maxTimeout img[1]
  hostAddr := loadAddr dflt.hostAddr #v[img[2], img[3], img[4], img[5]]
  pollAddr := loadAddr dflt.pollAddr #v[img[6], img[7], img[8], img[9]]
  commissioned := loadBit dflt.commissioned img[10]
  fadeRate := loadByte dflt.fadeRate img[11]
  fadeDelay := loadHalf dflt.fadeDelay img[12] img[13]
  powerOnLevel := loadByte dflt.powerOnLevel img[14]
  groups := loadSlots dflt.groups #v[img[15], img[16], img[17], img[18], img[19]]
  scenes := loadSlots dflt.scenes #v[img[20], img[21], img[22], img[23], img[24]]
  lisMode := loadBit dflt.lisMode img[25]
  lisGroup := loadByte dflt.lisGroup img[26]

/-- `image(s)`: the 27 bytes of the mirror (R43, R44, R320). -/
def imageOf (c : Persistent) : Image :=
  #v[c.sensingPeriod, c.maxTimeout,
     c.hostAddr[0], c.hostAddr[1], c.hostAddr[2], c.hostAddr[3],
     c.pollAddr[0], c.pollAddr[1], c.pollAddr[2], c.pollAddr[3],
     bitByte c.commissioned, c.fadeRate, highByte c.fadeDelay, lowByte c.fadeDelay, c.powerOnLevel,
     c.groups[0], c.groups[1], c.groups[2], c.groups[3], c.groups[4],
     c.scenes[0], c.scenes[1], c.scenes[2], c.scenes[3], c.scenes[4],
     bitByte c.lisMode, c.lisGroup]

end Sys2Proof
end

