-- ==== Sys2Proof/Machine/Units.lean ====
section
/-! DEFINITION. The registers of the four units as plain data (10_state.md), with their reset values
(10_state.md R59, 70_reset_and_hazards.md R370), and the events and records at the ports (R60 to R66). -/

namespace Sys2Proof.Machine

/-- Which 4-byte address field the encoder sends (R180). -/
inductive AddrSel where
  | host | poll
deriving DecidableEq, Repr, Inhabited

/-- A response request record (R180). -/
structure Resp where
  cmd     : Byte
  addrSel : AddrSel
  payload : List Byte
deriving DecidableEq, Repr, Inhabited

/-- The dispatcher's states (R29). -/
inductive DispState where
  | idle | waitResp
deriving DecidableEq, Repr, Inhabited

/-- The events of a run: the inputs of R60 to R64 and the internal `Dispatch` (R91). -/
inductive Event where
  | rxByte (b : Byte)
  | tick
  | motion
  | identRequest
  | respReady
  | dispatch
deriving DecidableEq, Repr

/-- The output events of R65. The levels `DutyOut` and `LoadOut` are functions of the registers. -/
inductive Output where
  | blink
  | nvCommit (img : Image)
  | identFrame (b0 b1 b2 b3 : Byte)
  | resp (r : Resp)
deriving DecidableEq, Repr

/-- The frame assembler's registers (R22 to R27). -/
structure Assembler where
  fbuf             : Frame8
  fill             : BitVec 4
  idleArmed        : Bool
  idleCnt          : Nat
  identMode        : Bool
  awaitingIdentity : Bool
  fhold            : Frame8
  framePending     : Bool
deriving DecidableEq, Repr

/-- The dispatcher's registers (R28, R29). -/
structure Dispatcher where
  dedupe    : Byte
  dispState : DispState
  respBuf   : Option Resp
deriving DecidableEq, Repr

/-- The ramp unit's registers (R46 to R49). -/
structure Ramp where
  currentDuty : Half
  targetDuty  : Half
  rampDelay   : Nat
  activePct   : Byte
  loadOn      : Bool
deriving DecidableEq, Repr

/-- The occupancy unit's registers (R50 to R57). `sampleCnt` is a natural number (DEDUCED, log 11). -/
structure Occupancy where
  debounce      : Byte
  sensorEnabled : Bool
  requestMode   : Bool
  manuallyOff   : Bool
  timeoutTicks  : Byte
  minutePresc   : Nat
  presentCount  : Byte
  motionFlag    : Bool
  sampleCnt     : Nat
deriving DecidableEq, Repr

/-- The frame registers at reset: the spec leaves them unspecified, never read before they are written (R22, R27,
R370); the model has zeros (DESIGN CHOICE, log 5). -/
def blankFrame : Frame8 :=
  #v[0#8, 0#8, 0#8, 0#8, 0#8, 0#8, 0#8, 0#8]

/-- The assembler is empty and its timer disarmed (R370). -/
def Assembler.atReset : Assembler where
  fbuf := blankFrame
  fill := 0#4
  idleArmed := false
  idleCnt := 0
  identMode := false
  awaitingIdentity := false
  fhold := blankFrame
  framePending := false

/-- The dispatcher is Idle with `dedupe = NONE` (R370). -/
def Dispatcher.atReset : Dispatcher where
  dedupe := Config.noId
  dispState := .idle
  respBuf := none

/-- The ramp is at rest at off (R370). -/
def Ramp.atReset : Ramp where
  currentDuty := 3300#16
  targetDuty := 3300#16
  rampDelay := 0
  activePct := 0#8
  loadOn := false

/-- Occupancy is Disabled, the sampler off, every counter and flag 0 (R370). -/
def Occupancy.atReset : Occupancy where
  debounce := 0#8
  sensorEnabled := false
  requestMode := false
  manuallyOff := false
  timeoutTicks := 0#8
  minutePresc := 0
  presentCount := 0#8
  motionFlag := false
  sampleCnt := 0

end Sys2Proof.Machine
end

