-- ==== Sys2Proof/Machine/State.lean ====
section
/-! DEFINITION. The state of the machine (10_state.md), the reasons a step can stop, and the state after reset
(70_reset_and_hazards.md R370). -/

namespace Sys2Proof.Machine

/-- The fault reasons of 60_exceptions.md R343: no other fault exists. -/
inductive Fault where
  /-- `UNDEF_PARAM`: raised by an action whose parameter byte is no ASCII digit, whose scene index is outside 1..5, or
  whose recalled scene value is above 99 (R343). Safe: the device computes some value there and the model none. -/
  | undefParam
deriving DecidableEq, Repr

/-- The refusal reasons of 60_exceptions.md R344, and the rejection of an instruction that has no meaning yet. -/
inductive Refusal where
  /-- An arm of `exec` without a meaning; no arm of this model uses it. Safe: nothing is claimed of such an
  instruction. -/
  | notModelled (mnemonic : String)
  /-- `CMD38_UNKNOWN`: a frame matched the template of the unnamed 38th command (R326). Safe: the device does something
  the spec does not say. -/
  | cmd38Unknown
  /-- `BAD_CONFIG`: the parameters are not well formed, refused before any step (R9, R344). Safe: no block with such
  parameters is described. -/
  | badConfig
deriving DecidableEq, Repr

/-- The machine's state: the registers of the four units (R22 to R57), the configuration registers (R30 to R42), the
model marks of R58, and the model's own fields `cfg` (log 1), `schedule` and `eventNo` (log 3) and `outputs`
(log 4). -/
structure State where
  /-- The parameters of R8. No step writes them. -/
  cfg      : Params
  asm      : Assembler
  disp     : Dispatcher
  /-- The PersistentConfig mirror (R42). -/
  conf     : Persistent
  /-- The slot the next SET_GROUP writes (R39). -/
  groupWp  : BitVec 3
  ramp     : Ramp
  occ      : Occupancy
  /-- The sticky fault mark (R58). -/
  fault    : Option Fault
  /-- The sticky refusal mark (R58). -/
  refused  : Option Refusal
  /-- Events already chosen, in the order in which the run takes them (R15, R350); after them the open environment
  goes on. -/
  schedule : List Event
  /-- How many events the run has taken from the open environment `Config.environment` (R15, log 3). -/
  eventNo  : Nat
  /-- The output events emitted so far, oldest first (R65). -/
  outputs  : List Output
deriving DecidableEq, Repr

/-- What a step or a meaning answers. -/
abbrev Result := Host.Outcome State Fault Refusal

/-- The state after reset under given parameters, when the store delivers a given image (R370, R372). Parameters that
are not well formed mark it refused, before any step (R9, R344, log 7). -/
def State.resetWith (p : Params) (img : Image) : State where
  cfg := p
  asm := Assembler.atReset
  disp := Dispatcher.atReset
  conf := loadImage p.defaults img
  groupWp := 0#3
  ramp := Ramp.atReset
  occ := Occupancy.atReset
  fault := none
  refused := if p.wf then none else some .badConfig
  schedule := []
  eventNo := 0
  outputs := []

/-- The machine right after reset (R370), with the OPEN parameters and an unconstrained image. -/
def State.reset : State :=
  State.resetWith Config.params Config.cfgImage

end Sys2Proof.Machine

namespace Sys2Proof

/-- The events of the open environment and the scheduler, the one with the given number: any finite or infinite
sequence (R15, R350). `none` says that the environment delivers no further event. Nothing is known of it (log 3). -/
opaque Config.environment : Nat → Option Machine.Event

/-- The first byte of `RESP_PAYLOAD_OPEN(id, s)` (R8, R184), a payload having length at least 1 (R180): OPEN
(log 8). -/
opaque Config.respPayloadFirst : Byte → Machine.State → Byte

/-- The rest of `RESP_PAYLOAD_OPEN(id, s)` (R8, R184): OPEN (log 8). -/
opaque Config.respPayloadRest : Byte → Machine.State → List Byte

end Sys2Proof
end

