-- ==== Sys2Proof/Machine/Flags.lean ====
section
/-! DEFINITION. The conditions the rules test: off duty, busy ramp, enabled dispatch, address filter, occupied group
slots, and the output levels. -/

namespace Sys2Proof.Machine

/-- `isOff(d)` = d ≥ 3300 (43_dimming.md R214). -/
def isOff (d : Half) : Bool :=
  decide (Config.offDuty.toNat ≤ d.toNat)

/-- The ramp unit is busy iff current_duty ≠ target_duty (R46, R215). -/
def Ramp.busy (r : Ramp) : Bool :=
  r.currentDuty != r.targetDuty

/-- A fault or a refusal is recorded (R58). -/
def State.marked (s : State) : Bool :=
  s.fault.isSome || s.refused.isSome

/-- `Dispatch` is enabled (41_dispatcher.md R150). -/
def dispatchEnabled (s : State) : Bool :=
  s.asm.framePending && s.disp.dispState == .idle && !s.ramp.busy && !s.marked

/-- `addr_ok(a)` (R154, R155). -/
def addrOk (s : State) (a : Byte) : Bool :=
  a == Config.broadcast || (s.conf.groups.toList.any fun g => g != Config.groupEmpty && g == a) ||
    s.cfg.ownAddr == some a

/-- The number of group slots in use (45_registry.md R293). -/
def groupCount (g : Slots5) : Byte :=
  BitVec.ofNat 8 (g.toList.countP fun x => x != Config.groupEmpty)

/-- `RESP_ADDR_SEL(id)` (R8, R180). -/
def respAddrSel (p : Params) (id : Byte) : AddrSel :=
  if p.pollIds.contains id then .poll else .host

/-- The level on `DutyOut` (R65, R221). -/
def State.dutyOut (s : State) : Half :=
  s.ramp.currentDuty

/-- The level on `LoadOut` (R65). -/
def State.loadOut (s : State) : Bool :=
  s.ramp.loadOn

end Sys2Proof.Machine
end

