-- ==== Sys2Proof/Machine/Operands.lean ====
section
/-! DEFINITION. The operand forms of the commands: two decimal digits (30_encoding.md R97), four address characters
(R98), a scene index (R99). `none` is the spec's UNDEF. -/

namespace Sys2Proof.Machine

/-- `digit(c)` (R97), over the ASCII codes of R10 (PRESUMED, log 20). -/
def digit (c : Byte) : Option (Fin 10) :=
  if h : 0x30 ≤ c.toNat ∧ c.toNat ≤ 0x39 then some ⟨c.toNat - 0x30, by omega⟩ else none

/-- `decode2(hi, lo)` (R97). -/
def decode2 (hi lo : Byte) : Option Percent :=
  match digit hi, digit lo with
  | some a, some b => some ⟨a.val * 10 + b.val, by omega⟩
  | _, _ => none

/-- A decoded value as a register byte; 0..99 fits (R97). -/
def percentByte (v : Percent) : Byte :=
  BitVec.ofNat 8 v.val

/-- The slot of scene n = decode2(hi, lo), legal for 1 ≤ n ≤ 5 and selecting slot n - 1; none for UNDEF and for any
other n (R99). -/
def sceneSlot (hi lo : Byte) : Option (Fin 5) :=
  match decode2 hi lo with
  | some n => if h : 1 ≤ n.val ∧ n.val ≤ 5 then some ⟨n.val - 1, by omega⟩ else none
  | none => none

/-- The four characters of an address parameter as they are, first character first (R98). -/
def addrField (a0 a1 a2 a3 : Byte) : Addr4 :=
  #v[a0, a1, a2, a3]

end Sys2Proof.Machine
end

