-- ==== Sys2Proof/Machine/Ops.lean ====
section
/-! DEFINITION. The operations the rules share: raising a fault and refusing (00_scope.md R12), emitting an output
(R12, R65), what follows every executed action (41_dispatcher.md R160, R161, R164), and the slots of the registry. -/

namespace Sys2Proof.Machine

/-- `raise Fault(r)`: the sticky fault mark is set and the step ends with no other write (R12). It is a next state; the
marked state has no further step (log 6). -/
def raiseFault (r : Fault) (s : State) : Result :=
  .next { s with fault := some r }

/-- `refuse(r)`: the sticky refusal mark is set (R12); the marked state has no further step (log 6). -/
def refuseWith (r : Refusal) (s : State) : Result :=
  .next { s with refused := some r }

/-- `emit Port(args)`: one output event (R12). -/
def emit (o : Output) (s : State) : State :=
  { s with outputs := s.outputs ++ [o] }

/-- The command is executed without a response: only `dedupe <- id` (R160). -/
def executedSilently (c : Cmd) (s : State) : State :=
  { s with disp.dedupe := s.cfg.idOf c }

/-- The command is executed: `dedupe <- id` (R160), and, iff RESPONDS(id), the response request record goes to
`resp_buf` and the dispatcher to WaitResp (R161, R164, R180). `s` is the state after the action's writes, from which
the payload is computed (R184). -/
def executed (c : Cmd) (payload : List Byte) (s : State) : State :=
  let id := s.cfg.idOf c
  { s with
    disp :=
      { dedupe := id
        dispState := if s.cfg.responds id then .waitResp else s.disp.dispState
        respBuf := if s.cfg.responds id then some ⟨id, respAddrSel s.cfg id, payload⟩ else s.disp.respBuf } }

/-- The block's registers, without the model's own record of events and outputs: what an OPEN payload
may depend on. -/
def State.registers (s : State) : State :=
  { s with schedule := [], eventNo := 0, outputs := [] }

/-- `RESP_PAYLOAD_OPEN(id, s)` of a command (R8, R184). -/
def openPayload (c : Cmd) (s : State) : List Byte :=
  let id := s.cfg.idOf c
  Config.respPayloadFirst id s.registers :: Config.respPayloadRest id s.registers

/-- An executed command whose payload the spec leaves OPEN (R184). -/
def executedOpen (c : Cmd) (s : State) : State :=
  executed c (openPayload c s) s

/-- The action of a command with a two-digit value: UNDEF raises UNDEF_PARAM (R97, R163), else the action goes on with
the value. -/
def withNumber (hi lo : Byte) (s : State) (act : Percent → State) : Result :=
  match decode2 hi lo with
  | some v => .next (act v)
  | none => raiseFault .undefParam s

/-- The action of a command with a scene index: UNDEF and an index outside 1..5 raise UNDEF_PARAM (R99, R163), else
the action goes on with the slot. -/
def withScene (hi lo : Byte) (s : State) (act : Fin 5 → Result) : Result :=
  match sceneSlot hi lo with
  | some k => act k
  | none => raiseFault .undefParam s

/-- Five empty group slots (45_registry.md R292). -/
def noGroups : Slots5 :=
  #v[Config.groupEmpty, Config.groupEmpty, Config.groupEmpty, Config.groupEmpty, Config.groupEmpty]

/-- `groups[group_wp] <- v; group_wp <- (group_wp + 1) mod GROUP_SLOTS` (45_registry.md R290). `group_wp` is below 5
in every state a run reaches (R39; log 17). -/
def insertGroup (v : Byte) (s : State) : State :=
  { s with
    conf.groups := s.conf.groups.setIfInBounds s.groupWp.toNat v
    groupWp := BitVec.ofNat 3 ((s.groupWp.toNat + 1) % Config.groupSlots) }

/-- `commit()`: one NvCommit event with the image of every persistent field (46_system.md R320). -/
def commit (s : State) : State :=
  emit (.nvCommit (imageOf s.conf)) s

/-- The event the next step performs: the head of the schedule; with an empty schedule the next event of the open
environment; and when that delivers nothing more, `Dispatch` (weak fairness, 60_exceptions.md R350, log 3). -/
def State.nextEvent (s : State) : Event :=
  match s.schedule with
  | e :: _ => e
  | [] => (Config.environment s.eventNo).getD .dispatch

/-- `s` with its next event taken from the schedule, or counted as taken from the open environment (log 3). -/
def takeEvent (s : State) : State :=
  { s with
    schedule := s.schedule.tail
    eventNo := if s.schedule.isEmpty && (Config.environment s.eventNo).isSome then s.eventNo + 1 else s.eventNo }

/-- Taking the held frame: `frame_pending <- 0` (41_dispatcher.md R151). -/
def takeFrame (s : State) : State :=
  { s with asm.framePending := false }

end Sys2Proof.Machine
end

