-- ==== Sys2Proof/Machine/Addressing.lean ====
section
/-! DEFINITION. Addressing and commissioning commands (42_cmd_addressing.md). -/

namespace Sys2Proof.Machine

/-- SET_HOST_ADDR (R190): locked while commissioned, then silent with the dedupe set (R160, R164). -/
def execSetHostAddr (a0 a1 a2 a3 : Byte) (s : State) : Result :=
  if s.conf.commissioned then .next (executedSilently .setHostAddr s)
  else .next (executedOpen .setHostAddr { s with conf.hostAddr := addrField a0 a1 a2 a3 })

/-- RESET_HOST_ADDR (R191): unconditional. -/
def execResetHostAddr (s : State) : Result :=
  .next (executedOpen .resetHostAddr { s with conf.hostAddr := s.cfg.defaults.hostAddr })

/-- SET_POLL_ADDR (R192): not gated by the commissioning flag. -/
def execSetPollAddr (a0 a1 a2 a3 : Byte) (s : State) : Result :=
  .next (executedOpen .setPollAddr { s with conf.pollAddr := addrField a0 a1 a2 a3 })

/-- COMMISSION (R193). -/
def execCommission (s : State) : Result :=
  .next (executedOpen .commission { s with conf.commissioned := true })

/-- DECOMMISSION (R194). -/
def execDecommission (s : State) : Result :=
  .next (executedOpen .decommission { s with conf.commissioned := false })

/-- GET_OWN_ADDRESS (R195). -/
def execGetOwnAddress (s : State) : Result :=
  .next (executedOpen .getOwnAddress s)

end Sys2Proof.Machine
end

