-- ==== Sys2Proof/Machine/Assembler.lean ====
section
/-! DEFINITION. The frame assembler (40_frame_assembler.md): byte filter, accumulation, hand-off, idle-gap timer,
identity frame. -/

namespace Sys2Proof.Machine

/-- `start_timer()` (R122). -/
def Assembler.startTimer (p : Params) (a : Assembler) : Assembler :=
  { a with
    identMode := a.awaitingIdentity
    idleCnt := if a.awaitingIdentity then p.identGapTicks else p.idleGapTicks
    idleArmed := true }

/-- The hand-off of a completed frame: to `fhold` if none is pending (R124), else the new frame is lost (R125). -/
def Assembler.handOff (a : Assembler) : Assembler :=
  if a.framePending then a else { a with fhold := a.fbuf, framePending := true }

/-- `complete()` (R124). -/
def Assembler.complete (p : Params) (a : Assembler) : Assembler :=
  let b := { a.handOff with fill := 0#4, identMode := false }
  match p.idleExpiry with
  | .disarm => { b with idleArmed := false, idleCnt := 0 }
  | .runOut => b

/-- `accept(b)` (R121). `fill` is below 8 in every state a run reaches (R23; log 17). -/
def Assembler.accept (p : Params) (b : Byte) (a : Assembler) : Assembler :=
  let stored := { a with fbuf := a.fbuf.setIfInBounds a.fill.toNat b }
  let timed := if a.fill = 0#4 then stored.startTimer p else stored
  if a.fill.toNat + 1 = Config.frameLen then timed.complete p else { timed with fill := a.fill + 1#4 }

/-- `RxByte(b)`: a filtered byte changes nothing, any other is accepted (R120). -/
def rxByte (b : Byte) (s : State) : State :=
  if isFiltered b then s else { s with asm := s.asm.accept s.cfg b }

/-- `IdentRequest` (R129). -/
def identRequest (s : State) : State :=
  { s with asm.awaitingIdentity := true }

/-- `identity_complete()`: the meaning of an identity frame (R128). -/
def execIdentityFrame (i0 i1 i2 i3 : Byte) (s : State) : Result :=
  .next (emit (.identFrame i0 i1 i2 i3) { s with asm.awaitingIdentity := false, asm.fill := 0#4 })

/-- The timer at its expiry: disarmed, and the frame's mode ended (R126). -/
def Assembler.expired (a : Assembler) : Assembler :=
  { a with idleArmed := false, idleCnt := 0, identMode := false }

/-- An expiry that finds no identity frame: the partial frame is discarded and the dedupe cache cleared (R126,
R127). -/
def discardFrame (s : State) : State :=
  { s with asm.fill := 0#4, disp.dedupe := Config.noId }

/-- The identity frame the assembler holds when its timer expires with exactly four bytes in identity mode (R107,
R126). -/
def Assembler.identity? (a : Assembler) : Option Instr :=
  if a.identMode ∧ a.fill = 4#4 then some (.identityFrame a.fbuf[0] a.fbuf[1] a.fbuf[2] a.fbuf[3]) else none

/-- The timer is armed and this tick is its last (R126). -/
def Assembler.expiring (a : Assembler) : Bool :=
  a.idleArmed && decide (a.idleCnt ≤ 1)

/-- The countdown of a tick that is not the last (R126). -/
def Assembler.countDown (a : Assembler) : Assembler :=
  if a.idleArmed then { a with idleCnt := a.idleCnt - 1 } else a

end Sys2Proof.Machine
end

