-- ==== Sys2Proof/Machine/Dimming.lean ====
section
/-! DEFINITION. The ramp unit and the dimming commands (43_dimming.md). -/

namespace Sys2Proof.Machine

/-- `duty_map(p)` (R212). -/
def dutyMap (p : Percent) : Half :=
  let n := p.val
  BitVec.ofNat 16
    (if n ≤ 10 then 3300 - 24 * n
     else if n = 11 then 3085
     else if n = 12 then 3084
     else if n = 13 then 3080
     else if n = 14 then 3075
     else if n ≤ 66 then 3070 - 24 * (n - 15)
     else if n ≤ 98 then 1780 - 24 * (n - 67)
     else 0)

/-- `set_level(p)` (R213). -/
def Ramp.setLevel (p : Percent) (r : Ramp) : Ramp :=
  let t := dutyMap p
  let r' := { r with activePct := percentByte p, targetDuty := t }
  if t ≠ r.currentDuty then { r' with rampDelay := 0, loadOn := if isOff t then r.loadOn else true }
  else { r' with loadOn := !isOff t }

/-- The duty after one ramp step: toward the target by the rate, clamped to the target (R216). -/
def rampStep (current target : Half) (rate : Byte) : Half :=
  if current.toNat < target.toNat then
    if target.toNat - current.toNat ≤ rate.toNat then target else BitVec.ofNat 16 (current.toNat + rate.toNat)
  else
    if current.toNat - target.toNat ≤ rate.toNat then target else BitVec.ofNat 16 (current.toNat - rate.toNat)

/-- `ramp_complete()` (R217). -/
def Ramp.finish (r : Ramp) : Ramp :=
  if isOff r.targetDuty then { r with loadOn := false } else r

/-- `ramp_tick()` with the fade rate and the pause FADE_DELAY_TICKS(fade_delay) (R216). -/
def Ramp.tick (rate : Byte) (pause : Nat) (r : Ramp) : Ramp :=
  if r.currentDuty = r.targetDuty then r
  else if 0 < r.rampDelay then { r with rampDelay := r.rampDelay - 1 }
  else
    let r' := { r with currentDuty := rampStep r.currentDuty r.targetDuty rate, rampDelay := pause }
    if r'.currentDuty = r'.targetDuty then r'.finish else r'

/-- The ramp part of a Tick (R216, R351). -/
def rampTick (s : State) : State :=
  { s with ramp := s.ramp.tick s.conf.fadeRate (s.cfg.fadeDelayTicks s.conf.fadeDelay) }

/-- SET_LEVEL (R225). -/
def execSetLevel (hi lo : Byte) (s : State) : Result :=
  withNumber hi lo s fun p => executedOpen .setLevel { s with ramp := s.ramp.setLevel p }

/-- SET_FADE_RATE (R226). -/
def execSetFadeRate (hi lo : Byte) (s : State) : Result :=
  withNumber hi lo s fun v => executedOpen .setFadeRate { s with conf.fadeRate := percentByte v }

/-- SET_FADE_DELAY (R227). -/
def execSetFadeDelay (hi lo : Byte) (s : State) : Result :=
  withNumber hi lo s fun v => executedOpen .setFadeDelay { s with conf.fadeDelay := (percentByte v).setWidth 16 }

/-- SET_POWER_ON_LEVEL (R228). -/
def execSetPowerOnLevel (hi lo : Byte) (s : State) : Result :=
  withNumber hi lo s fun v => executedOpen .setPowerOnLevel { s with conf.powerOnLevel := percentByte v }

/-- GET_PERCENTAGE (R229). -/
def execGetPercentage (s : State) : Result :=
  .next (executed .getPercentage [s.ramp.activePct] s)

end Sys2Proof.Machine
end

