-- ==== Sys2Proof/Machine/Occupancy.lean ====
section
/-! DEFINITION. The occupancy unit and its commands (44_occupancy.md). -/

namespace Sys2Proof.Machine

/-- The debounce counter after one more edge, saturating at 255 (R253). -/
def bumpDebounce (d : Byte) : Byte :=
  if d = 255#8 then 255#8 else d + 1#8

/-- `debounce_step()` (R253). -/
def debounceStep (s : State) : State :=
  let d := bumpDebounce s.occ.debounce
  if Config.debounceThreshold ≤ d.toNat then
    { s with
      ramp.loadOn := if s.occ.manuallyOff then s.ramp.loadOn else true
      occ.timeoutTicks := 0#8
      occ.debounce := 0#8 }
  else { s with occ.debounce := d }

/-- `Motion` (R252): the flag is set in every state, the edge is debounced only while Armed (R254). -/
def motion (s : State) : State :=
  let flagged := { s with occ.motionFlag := true }
  if s.occ.sensorEnabled then debounceStep flagged else flagged

/-- `minute_event()` (R256). The sum is exact, so the comparison is on natural numbers (R11; DEDUCED,
log 12). -/
def minuteEvent (s : State) : State :=
  if s.occ.sensorEnabled then
    if s.conf.maxTimeout.toNat ≤ s.occ.timeoutTicks.toNat + 1 then
      { s with ramp.loadOn := false, occ.timeoutTicks := 0#8 }
    else { s with occ.timeoutTicks := s.occ.timeoutTicks + 1#8 }
  else s

/-- The presence count after one more window with motion: 254 wraps to 0 (R257). -/
def bumpCount (c : Byte) : Byte :=
  if c + 1#8 = 255#8 then 0#8 else c + 1#8

/-- The end of a sampling window (R257). -/
def Occupancy.windowEnd (o : Occupancy) : Occupancy :=
  if o.motionFlag then { o with sampleCnt := 0, presentCount := bumpCount o.presentCount, motionFlag := false }
  else { o with sampleCnt := 0 }

/-- `sample_tick()` with the window SAMPLE_WINDOW_TICKS(sensing_period) (R257). -/
def Occupancy.sampleTick (window : Nat) (o : Occupancy) : Occupancy :=
  if o.requestMode then
    if window ≤ o.sampleCnt + 1 then o.windowEnd else { o with sampleCnt := o.sampleCnt + 1 }
  else o

/-- The minute prescaler of a Tick, with the minute event at its wrap (R255). -/
def minuteTick (s : State) : State :=
  if s.cfg.minuteTicks ≤ s.occ.minutePresc + 1 then minuteEvent { s with occ.minutePresc := 0 }
  else { s with occ.minutePresc := s.occ.minutePresc + 1 }

/-- The sampler part of a Tick (R255, R257). -/
def samplerTick (s : State) : State :=
  { s with occ := s.occ.sampleTick (s.cfg.sampleWindowTicks s.conf.sensingPeriod) }

/-- `occupancy_tick()` (R255): the minute, then the sampler. -/
def occupancyTick (s : State) : State :=
  samplerTick (minuteTick s)

/-- ENABLE_SENSOR (R258). -/
def execEnableSensor (s : State) : Result :=
  .next (executedOpen .enableSensor
    { s with occ.sensorEnabled := true, occ.timeoutTicks := 0#8, occ.debounce := 0#8 })

/-- DISABLE_SENSOR (R259). -/
def execDisableSensor (s : State) : Result :=
  .next (executedOpen .disableSensor { s with occ.sensorEnabled := false })

/-- RELAY_ON (R260). -/
def execRelayOn (s : State) : Result :=
  .next (executedOpen .relayOn
    { s with ramp.loadOn := true, occ.manuallyOff := false, occ.sensorEnabled := false })

/-- RELAY_OFF (R261). -/
def execRelayOff (s : State) : Result :=
  .next (executedOpen .relayOff
    { s with ramp.loadOn := false, occ.manuallyOff := true, occ.sensorEnabled := false })

/-- SET_SENSING_FREQ (R262). -/
def execSetSensingFreq (hi lo : Byte) (s : State) : Result :=
  withNumber hi lo s fun v => executedOpen .setSensingFreq { s with conf.sensingPeriod := percentByte v }

/-- SET_TIMEOUT (R263). -/
def execSetTimeout (hi lo : Byte) (s : State) : Result :=
  withNumber hi lo s fun v => executedOpen .setTimeout { s with conf.maxTimeout := percentByte v }

/-- ENABLE_REQUEST_MODE (R264). -/
def execEnableRequestMode (s : State) : Result :=
  .next (executedOpen .enableRequestMode
    { s with occ.requestMode := true, occ.sampleCnt := 0, occ.motionFlag := false })

/-- GET_SENSOR_DATA (R265). -/
def execGetSensorData (s : State) : Result :=
  .next (executed .getSensorData [s.occ.presentCount] s)

/-- CLEAR_COUNT (R266). -/
def execClearCount (s : State) : Result :=
  .next (executedOpen .clearCount { s with occ.presentCount := 0#8 })

/-- GET_TIMEOUT (R268). -/
def execGetTimeout (s : State) : Result :=
  .next (executed .getTimeout [s.conf.maxTimeout] s)

end Sys2Proof.Machine
end

