-- ==== Sys2Proof/Machine/Registry.lean ====
section
/-! DEFINITION. Group, scene and LIS commands (45_registry.md). -/

namespace Sys2Proof.Machine

/-- SET_GROUP (R290). -/
def execSetGroup (hi lo : Byte) (s : State) : Result :=
  withNumber hi lo s fun v => executedOpen .setGroup (insertGroup (percentByte v) s)

/-- GET_GROUP (R291). -/
def execGetGroup (s : State) : Result :=
  .next (executed .getGroup s.conf.groups.toList s)

/-- CLEAR_GROUP (R292). -/
def execClearGroup (s : State) : Result :=
  .next (executedOpen .clearGroup { s with conf.groups := noGroups, groupWp := 0#3 })

/-- GET_GROUP_COUNT (R293). -/
def execGetGroupCount (s : State) : Result :=
  .next (executed .getGroupCount [groupCount s.conf.groups] s)

/-- SET_SCENE (R294). -/
def execSetScene (hi lo : Byte) (s : State) : Result :=
  withScene hi lo s fun k => .next (executedOpen .setScene { s with conf.scenes := s.conf.scenes.set k s.ramp.activePct })

/-- GET_SCENE (R295). -/
def execGetScene (hi lo : Byte) (s : State) : Result :=
  withScene hi lo s fun k => .next (executed .getScene [s.conf.scenes[k]] s)

/-- `set_level` with a recalled scene value, or no dimming change for an unset one; a value above 99 has no level
(R296). -/
def recallScene (v : Byte) (s : State) : Option State :=
  if v = Config.sceneUnset then some s
  else if h : v.toNat < 100 then some { s with ramp := s.ramp.setLevel ⟨v.toNat, h⟩ }
  else none

/-- GOTO_SCENE (R296). -/
def execGotoScene (hi lo : Byte) (s : State) : Result :=
  withScene hi lo s fun k =>
    match recallScene s.conf.scenes[k] s with
    | some t => .next (executedOpen .gotoScene t)
    | none => raiseFault .undefParam s

/-- CLEAR_SCENE (R297). -/
def execClearScene (hi lo : Byte) (s : State) : Result :=
  withScene hi lo s fun k => .next (executedOpen .clearScene { s with conf.scenes := s.conf.scenes.set k Config.sceneUnset })

/-- STORE_LIS_GROUP (R298). -/
def execStoreLisGroup (hi lo : Byte) (s : State) : Result :=
  withNumber hi lo s fun v => executedOpen .storeLisGroup { s with conf.lisGroup := percentByte v, conf.lisMode := true }

/-- GET_LIS_GROUP (R299). -/
def execGetLisGroup (s : State) : Result :=
  .next (executed .getLisGroup [s.conf.lisGroup] s)

/-- CLEAR_LIS_GROUP (R300). -/
def execClearLisGroup (s : State) : Result :=
  .next (executedOpen .clearLisGroup { s with conf.lisGroup := 0xFF#8, conf.lisMode := false })

end Sys2Proof.Machine
end

