-- ==== Sys2Proof/Machine/System.lean ====
section
/-! DEFINITION. Configuration-store and system commands (46_system.md). -/

namespace Sys2Proof.Machine

/-- WRITE_FLASH (R321). -/
def execWriteFlash (s : State) : Result :=
  .next (executedOpen .writeFlash (commit s))

/-- FACTORY_RESET (R322): every persistent field and `group_wp`, then the commit of the default image. -/
def execFactoryReset (s : State) : Result :=
  .next (executedOpen .factoryReset (commit { s with conf := s.cfg.defaults, groupWp := 0#3 }))

/-- GET_SETTINGS (R323). -/
def execGetSettings (s : State) : Result :=
  .next (executedOpen .getSettings s)

/-- GET_HEALTH (R324). -/
def execGetHealth (s : State) : Result :=
  .next (executedOpen .getHealth s)

/-- IDENTIFY (R325). -/
def execIdentify (s : State) : Result :=
  .next (executedOpen .identify (emit .blink s))

/-- CMD38 (R326): refused, no response, no dedupe write. -/
def execCmd38 (s : State) : Result :=
  refuseWith .cmd38Unknown s

end Sys2Proof.Machine
end

