-- ==== Sys2Proof/Machine/Dispatch.lean ====
section
/-! DEFINITION. The meaning of each instruction: the action table of 41_dispatcher.md R162, and the identity frame
(40_frame_assembler.md R128). -/

namespace Sys2Proof.Machine

def exec (i : Instr) (s : State) : Host.Outcome State Fault Refusal :=
  match i with
  | .setHostAddr a0 a1 a2 a3 _ => Sys2Proof.Machine.execSetHostAddr a0 a1 a2 a3 s
  | .resetHostAddr _ => Sys2Proof.Machine.execResetHostAddr s
  | .setPollAddr a0 a1 a2 a3 _ => Sys2Proof.Machine.execSetPollAddr a0 a1 a2 a3 s
  | .setSensingFreq hi lo _ => Sys2Proof.Machine.execSetSensingFreq hi lo s
  | .setTimeout hi lo _ => Sys2Proof.Machine.execSetTimeout hi lo s
  | .setPowerOnLevel hi lo _ => Sys2Proof.Machine.execSetPowerOnLevel hi lo s
  | .setLevel hi lo _ => Sys2Proof.Machine.execSetLevel hi lo s
  | .setFadeRate hi lo _ => Sys2Proof.Machine.execSetFadeRate hi lo s
  | .setFadeDelay hi lo _ => Sys2Proof.Machine.execSetFadeDelay hi lo s
  | .setGroup hi lo _ => Sys2Proof.Machine.execSetGroup hi lo s
  | .getGroup _ => Sys2Proof.Machine.execGetGroup s
  | .clearGroup _ => Sys2Proof.Machine.execClearGroup s
  | .setScene hi lo _ => Sys2Proof.Machine.execSetScene hi lo s
  | .getScene hi lo _ => Sys2Proof.Machine.execGetScene hi lo s
  | .gotoScene hi lo _ => Sys2Proof.Machine.execGotoScene hi lo s
  | .clearScene hi lo _ => Sys2Proof.Machine.execClearScene hi lo s
  | .storeLisGroup hi lo _ => Sys2Proof.Machine.execStoreLisGroup hi lo s
  | .getLisGroup _ => Sys2Proof.Machine.execGetLisGroup s
  | .clearLisGroup _ => Sys2Proof.Machine.execClearLisGroup s
  | .commission _ => Sys2Proof.Machine.execCommission s
  | .decommission _ => Sys2Proof.Machine.execDecommission s
  | .identify _ => Sys2Proof.Machine.execIdentify s
  | .writeFlash _ => Sys2Proof.Machine.execWriteFlash s
  | .getSensorData _ => Sys2Proof.Machine.execGetSensorData s
  | .clearCount _ => Sys2Proof.Machine.execClearCount s
  | .relayOn _ => Sys2Proof.Machine.execRelayOn s
  | .relayOff _ => Sys2Proof.Machine.execRelayOff s
  | .disableSensor _ => Sys2Proof.Machine.execDisableSensor s
  | .enableSensor _ => Sys2Proof.Machine.execEnableSensor s
  | .factoryReset _ => Sys2Proof.Machine.execFactoryReset s
  | .getSettings _ => Sys2Proof.Machine.execGetSettings s
  | .enableRequestMode _ => Sys2Proof.Machine.execEnableRequestMode s
  | .getTimeout _ => Sys2Proof.Machine.execGetTimeout s
  | .getPercentage _ => Sys2Proof.Machine.execGetPercentage s
  | .getGroupCount _ => Sys2Proof.Machine.execGetGroupCount s
  | .getHealth _ => Sys2Proof.Machine.execGetHealth s
  | .getOwnAddress _ => Sys2Proof.Machine.execGetOwnAddress s
  | .cmd38 _ => Sys2Proof.Machine.execCmd38 s
  | .identityFrame i0 i1 i2 i3 => Sys2Proof.Machine.execIdentityFrame i0 i1 i2 i3 s

end Sys2Proof.Machine
end

