-- ==== Sys2Proof/Machine/Events.lean ====
section
/-! DEFINITION. The events of a run (30_encoding.md R91, 60_exceptions.md R349 to R352): Dispatch, Tick, RespReady and
the environment's other inputs, each one atomic step. -/

namespace Sys2Proof.Machine

/-- An enabled `Dispatch` (41_dispatcher.md R152): take the frame, filter the address, match, test for a duplicate,
execute. Every dropped frame writes only `frame_pending <- 0` (R154, R158, R159). -/
def dispatchFrame (s : State) : Result :=
  let s' := takeFrame s
  let f := s.asm.fhold
  if addrOk s' f[7] then
    match matchTemplate s.cfg.templates (payload f) with
    | none => .next s'
    | some t => if s.disp.dedupe = s.cfg.idOf t.name then .next s' else exec (Instr.ofFrame t.name f) s'
  else .next s'

/-- `assembler_tick()` (40_frame_assembler.md R126): count down, or expire; an expiry with an identity frame runs it
(R128), any other discards the partial frame (R127). -/
def assemblerTick (s : State) : Result :=
  if s.asm.expiring then
    let s' := { s with asm := s.asm.expired }
    match s.asm.identity? with
    | some i => exec i s'
    | none => .next (discardFrame s')
  else .next { s with asm := s.asm.countDown }

/-- `Tick` (60_exceptions.md R351): assembler, then ramp, then occupancy, each on the state the part before left. -/
def tick (s : State) : Result :=
  match assemblerTick s with
  | .next s' => .next (occupancyTick (rampTick s'))
  | .fault r => .fault r
  | .refused r => .refused r

/-- The output of the held response, if one is held (41_dispatcher.md R181). -/
def respOutput : Option Resp → List Output
  | some r => [.resp r]
  | none => []

/-- An enabled `RespReady` (41_dispatcher.md R181). -/
def handResp (s : State) : State :=
  { s with outputs := s.outputs ++ respOutput s.disp.respBuf, disp.respBuf := none, disp.dispState := .idle }

/-- One event. An event that is not enabled is not a step of the block (R349): its entry in the schedule passes with
no effect (log 3). -/
def perform (e : Event) (s : State) : Result :=
  match e with
  | .rxByte b => .next (rxByte b s)
  | .tick => tick s
  | .motion => .next (motion s)
  | .identRequest => .next (identRequest s)
  | .respReady => if s.disp.dispState = .waitResp then .next (handResp s) else .next s
  | .dispatch => if dispatchEnabled s then dispatchFrame s else .next s

/-- The next step of a run under a well-formed configuration and with no mark: its next event. When the environment
delivers nothing more and no `Dispatch` is enabled, nothing changes (R362, log 3). -/
def runNext (s : State) : Result :=
  perform s.nextEvent (takeEvent s)

/-- A configuration that is not well formed is refused before any step (R9); a marked state has no further step
(R12). -/
def guardedNext (s : State) : Result :=
  if s.cfg.wf then
    match s.fault, s.refused with
    | some r, _ => .fault r
    | none, some r => .refused r
    | none, none => runNext s
  else .refused .badConfig

/-- The state in which a completed frame waits for an enabled `Dispatch` that executes it, whatever the state before:
its eight bytes are held, the dispatcher is idle with nothing to suppress, no ramp runs, and the address passes the
filter (R150, R154, R159; log 16). -/
def placeFrame (f : Frame8) (s : State) : State :=
  { s with
    asm.fhold := f
    asm.framePending := true
    disp.dedupe := Config.noId
    disp.dispState := .idle
    disp.respBuf := none
    ramp.targetDuty := s.ramp.currentDuty
    conf.groups := if addrOk s f[7] then s.conf.groups else s.conf.groups.set 0 f[7]
    fault := none
    refused := none
    schedule := .dispatch :: s.schedule }

/-- The state in which four accepted bytes of identity mode meet the timer's last tick (R126, R128; log 16). -/
def placeIdentity (i0 i1 i2 i3 : Byte) (s : State) : State :=
  { s with
    asm.fbuf := (((s.asm.fbuf.set 0 i0).set 1 i1).set 2 i2).set 3 i3
    asm.fill := 4#4
    asm.idleArmed := true
    asm.idleCnt := 1
    asm.identMode := true
    asm.awaitingIdentity := true
    fault := none
    refused := none
    schedule := .tick :: s.schedule }

/-- The placing of an instruction given by its wire bytes. -/
def placeBytes (bs : List Byte) (s : State) : State :=
  match bs with
  | [b0, b1, b2, b3, b4, b5, b6, b7] => placeFrame #v[b0, b1, b2, b3, b4, b5, b6, b7] s
  | [b0, b1, b2, b3] => placeIdentity b0 b1 b2 b3 s
  | _ => s

end Sys2Proof.Machine
end

