-- ==== Sys2Proof/Machine/Step.lean ====
section
/-! DEFINITION. The step: one event of the run (00_scope.md R6). -/

namespace Sys2Proof.Machine

/-- One step of the machine. -/
def step (s : State) : Host.Outcome State Fault Refusal :=
  Sys2Proof.Machine.guardedNext s

/-- `s` with the instruction of a table word placed so that the very next step runs it (log 16). -/
def State.withFetchWord (s : State) (nbits w : Nat) : State :=
  Sys2Proof.Machine.placeBytes (Sys2Proof.wordBytes nbits w) s

end Sys2Proof.Machine
end

