-- ==== Sys2Proof/WellFormed.lean ====
section
/-! DEFINITION. Which instructions the wire can carry: the four reserved byte values are discarded on receipt
(30_encoding.md R92, 70_reset_and_hazards.md R386), so no received frame holds one. -/

namespace Sys2Proof

/-- The instruction's bytes can all be received (R92, R386). Digits are not asked for: a non-digit parameter is a
legal frame whose action raises UNDEF_PARAM (R97). -/
def Instr.wf (i : Instr) : Bool :=
  i.bytes.all fun b => !isFiltered b

end Sys2Proof
end

