-- ==== Sys2Proof/Safety.lean ====
section
/-! DEFINITION. The terms in which claims speak of runs: enabled events (60_exceptions.md R349), final states
(00_scope.md R15), the two hangs (60_exceptions.md R345), and the invariant of the block's registers. -/

namespace Sys2Proof.Machine

/-- The state is neither marked nor refused for its configuration, so that it has a further step (R9, R12, R344). -/
def State.live (s : State) : Bool :=
  s.cfg.wf && !s.marked

/-- The event is enabled (R349): the environment's inputs always, `RespReady` in WaitResp, `Dispatch` per R150, and none
once a fault or a refusal is recorded. -/
def enabled (e : Event) (s : State) : Bool :=
  match e with
  | .rxByte _ | .tick | .motion | .identRequest => s.live
  | .respReady => s.disp.dispState == .waitResp && s.live
  | .dispatch => dispatchEnabled s && s.live

/-- A run that has ended well: no further event is delivered, no internal step is enabled, and no fault and no refusal
is recorded (R15). -/
def State.final (s : State) : Bool :=
  s.schedule.isEmpty && (Config.environment s.eventNo).isNone && !dispatchEnabled s && s.live

/-- `s` when the environment has chosen the events `es` next (R15): the finite run over them from `s` is
`Host.Core.run Sys2Proof.core es.length (s.deliver es)`, if nothing else was chosen before. -/
def State.deliver (es : List Event) (s : State) : State :=
  { s with schedule := s.schedule ++ es }

/-- An infinite run of R15: any sequence of events `es`, each enabled in the state it meets (R349), and the states
`run 0`, `run 1`, … before each of them. -/
structure IsRun (es : Nat → Event) (run : Nat → State) : Prop where
  enabled_each : ∀ n, enabled (es n) (run n) = true
  step_each : ∀ n, step { run n with schedule := [es n] } = .next (run (n + 1))

/-- The weak fairness of R350: a `Dispatch` that stays enabled from some point on is taken. -/
def Fair (es : Nat → Event) (run : Nat → State) : Prop :=
  ∀ m, (∀ n, m ≤ n → dispatchEnabled (run n) = true) → ∃ n, m ≤ n ∧ es n = .dispatch

/-- The first hang of R345: a ramp is pending and the fade rate is 0 (R219, R383). -/
def State.rampHang (s : State) : Bool :=
  s.ramp.busy && s.conf.fadeRate == 0#8

/-- The image a commit would carry now loads back as the mirror it was taken from (R80, R321, R374). -/
def State.imageLoadsBack (s : State) : Prop :=
  loadImage s.cfg.defaults (imageOf s.conf) = s.conf

/-- What holds of the registers between steps, in every state a run under a well-formed configuration reaches. -/
structure State.Inv (s : State) : Prop where
  /-- The configuration is well formed (R9). -/
  cfg_wf : s.cfg.wf = true
  /-- `fill` is 0..7 between steps (R23). -/
  fill_lt : s.asm.fill.toNat < 8
  /-- The bytes of the current frame are accepted bytes (R120, R121). -/
  fbuf_sendable : ∀ k : Fin 8, k.val < s.asm.fill.toNat → isFiltered s.asm.fbuf[k] = false
  /-- The bytes of a held frame are accepted bytes (R124). -/
  fhold_sendable : s.asm.framePending = true → ∀ k : Fin 8, isFiltered s.asm.fhold[k] = false
  /-- The timer is armed iff ticks are left in it (R122, R124, R126). -/
  timer_armed : s.asm.idleArmed = true ↔ 0 < s.asm.idleCnt
  /-- `idle_cnt` is bounded by the two gaps (R357). -/
  timer_bound : s.asm.idleCnt ≤ max s.cfg.idleGapTicks s.cfg.identGapTicks
  /-- The timer runs while a frame is partial (R122). -/
  partial_timed : s.asm.fill ≠ 0#4 → s.asm.idleArmed = true
  /-- Identity mode belongs to a frame in progress (R25). -/
  ident_partial : s.asm.identMode = true → s.asm.fill ≠ 0#4
  /-- A response is held iff the dispatcher waits (R29). -/
  resp_held : s.disp.dispState = .waitResp ↔ s.disp.respBuf.isSome = true
  /-- A held response has at least one payload byte (R180). -/
  resp_nonempty : ∀ r, s.disp.respBuf = some r → r.payload ≠ []
  /-- `dedupe` holds a command id 0..37 or NONE (R28). -/
  dedupe_id : s.disp.dedupe = Config.noId ∨ s.disp.dedupe.toNat < 38
  /-- `group_wp` is 0..4 (R39, R301). -/
  group_wp_lt : s.groupWp.toNat < 5
  /-- `current_duty` stays in 0..3300 (R46). -/
  current_le : s.ramp.currentDuty.toNat ≤ 3300
  /-- `target_duty` stays in 0..3300 (R46). -/
  target_le : s.ramp.targetDuty.toNat ≤ 3300
  /-- `active_pct` is 0..99 (R48). -/
  active_le : s.ramp.activePct.toNat ≤ 99
  /-- The debounce counter stays below the threshold, which is 1 (R50, R253). -/
  debounce_clear : s.occ.debounce = 0#8
  /-- `minute_presc` is 0..MINUTE_TICKS - 1 (R55). -/
  minute_lt : s.occ.minutePresc < s.cfg.minuteTicks
  /-- `present_count` never holds 255 (R56). -/
  count_le : s.occ.presentCount.toNat ≤ 254

end Sys2Proof.Machine
end

