-- ==== Sys2Proof/Certificates/Slice0/Obligations.lean ====
section
/-! DEFINITION. The statements for the provers, and the terms they share. Each docstring names the rules of spec/ the
statement formalises; where a clause rests on a decision the spec marks as its own (92_eei_decisions.md D<n>) or on an
entry of the assumption log, the docstring says so. -/

namespace Sys2Proof.Claims

open Sys2Proof.Machine

/-- The dispatcher after an executed command `c` with payload `p`, from the state `s` the action left: `dedupe` is the
command's id, and iff RESPONDS(id) one response record is held and the dispatcher waits (R160, R161, R164, R180). -/
def answered (s : State) (c : Cmd) (p : List Byte) : Dispatcher :=
  if s.cfg.responds (s.cfg.idOf c) then
    ⟨s.cfg.idOf c, .waitResp, some ⟨s.cfg.idOf c, respAddrSel s.cfg (s.cfg.idOf c), p⟩⟩
  else ⟨s.cfg.idOf c, s.disp.dispState, s.disp.respBuf⟩

/-- `s` with the dispatcher as an executed command leaves it, the payload given (R184). -/
def answer (c : Cmd) (p : List Byte) (s : State) : State :=
  { s with disp := answered s c p }

/-- `s` with the dispatcher as an executed command leaves it, the payload being the OPEN one (R184, log 8). -/
def openAnswer (c : Cmd) (s : State) : State :=
  { s with disp := answered s c (openPayload c s) }

/-- The ramp registers after `set_level(p)` (R213). -/
def levelled (r : Ramp) (p : Percent) : Ramp :=
  { currentDuty := r.currentDuty
    targetDuty := dutyMap p
    rampDelay := if dutyMap p = r.currentDuty then r.rampDelay else 0
    activePct := BitVec.ofNat 8 p.val
    loadOn := if dutyMap p = r.currentDuty then !isOff (dutyMap p) else (r.loadOn || !isOff (dutyMap p)) }

/-- The configuration is well formed and no mark is set, so that the next event is performed (R9, R12). -/
def ready (s : State) : Prop :=
  s.cfg.wf = true ∧ s.fault = none ∧ s.refused = none

/-- The next step takes an enabled `Dispatch` (R150). -/
def dispatching (s : State) : Prop :=
  ready s ∧ s.nextEvent = .dispatch ∧ dispatchEnabled s = true

/-- `s` after a `Dispatch` that dropped its frame: only `frame_pending <- 0` (R154, R158, R159). -/
def dropped (s : State) : State :=
  { takeEvent s with asm.framePending := false }

/-- The next step executes the held frame, whose command is `c`: it passes the filter, decodes, and is no duplicate
(R152). -/
def executes (s : State) (c : Cmd) : Prop :=
  dispatching s ∧ addrOk s s.asm.fhold[7] = true ∧ s.disp.dedupe ≠ s.cfg.idOf c ∧
    ∃ i, decodeFrame s.cfg.templates s.asm.fhold = .ok i ∧ i.cmd = some c

/-- The image `img` holds the fields of `c` at the offsets of R43 (D39), a flag as 0x00 or 0x01 (R44; D31) and the fade
delay high byte first. -/
def laidOut (c : Persistent) (img : Image) : Prop :=
  img[0] = c.sensingPeriod ∧ img[1] = c.maxTimeout ∧
  (∀ k : Fin 4, img[2 + k.val] = c.hostAddr[k]) ∧ (∀ k : Fin 4, img[6 + k.val] = c.pollAddr[k]) ∧
  img[10] = (if c.commissioned then 0x01#8 else 0x00#8) ∧ img[11] = c.fadeRate ∧
  img[12].toNat * 256 + img[13].toNat = c.fadeDelay.toNat ∧ img[14] = c.powerOnLevel ∧
  (∀ k : Fin 5, img[15 + k.val] = c.groups[k]) ∧ (∀ k : Fin 5, img[20 + k.val] = c.scenes[k]) ∧
  img[25] = (if c.lisMode then 0x01#8 else 0x00#8) ∧ img[26] = c.lisGroup

/-- The distance of the duty from its target. -/
def gap (r : Ramp) : Nat :=
  max r.currentDuty.toNat r.targetDuty.toNat - min r.currentDuty.toNat r.targetDuty.toNat

/-- The tick on which a ramp ends: 1 + (n - 1)·(FADE_DELAY_TICKS(fade_delay) + 1) with n = ceil(gap / fade_rate) steps
(R218 item 4). -/
def rampTicks (s : State) : Nat :=
  1 + ((gap s.ramp + s.conf.fadeRate.toNat - 1) / s.conf.fadeRate.toNat - 1) *
    (s.cfg.fadeDelayTicks s.conf.fadeDelay + 1)

/-- `k` steps of the machine. -/
def runs (k : Nat) (s : State) : Result :=
  Host.Core.run Sys2Proof.core k s

end Sys2Proof.Claims

open Sys2Proof Sys2Proof.Machine Sys2Proof.Claims

/-! Addressing and commissioning (42_cmd_addressing.md). -/

/-- SET_HOST_ADDR while commissioned writes only `dedupe` and holds no response; else it stores the four characters and
answers. RESET_HOST_ADDR stores the compiled-in default whatever the flag, which it leaves. The silent locked case is
the spec's decision D30, the default its D29. -/
def Obligations.HostAddrCommands : Prop :=
  ∀ (s : State) (a0 a1 a2 a3 addr : Byte),
    (s.conf.commissioned = true →
      exec (.setHostAddr a0 a1 a2 a3 addr) s = .next { s with disp.dedupe := s.cfg.idOf .setHostAddr }) ∧
    (s.conf.commissioned = false →
      exec (.setHostAddr a0 a1 a2 a3 addr) s =
        .next (openAnswer .setHostAddr { s with conf.hostAddr := #v[a0, a1, a2, a3] })) ∧
    exec (.resetHostAddr addr) s =
      .next (openAnswer .resetHostAddr { s with conf.hostAddr := s.cfg.defaults.hostAddr })

/-- SET_POLL_ADDR: the characters of frame bytes 3 to 6 are stored, whatever the commissioning flag; kind Hex4 (R192). -/
def Obligations.SetPollAddrStores : Prop :=
  Cmd.usualKind .setPollAddr = .hex4 ∧
  ∀ (s : State) (f : Frame8),
    Instr.ofFrame .setPollAddr f = .setPollAddr f[3] f[4] f[5] f[6] f[7] ∧
    exec (.setPollAddr f[3] f[4] f[5] f[6] f[7]) s =
      .next (openAnswer .setPollAddr { s with conf.pollAddr := #v[f[3], f[4], f[5], f[6]] })

/-- COMMISSION sets the flag and DECOMMISSION clears it, each answering; after the one a SET_HOST_ADDR leaves the host
address, after the other it stores it (R193, R194). Both are of kind Lit. -/
def Obligations.CommissionLocksUntilDecommission : Prop :=
  Cmd.usualKind .commission = .lit ∧ Cmd.usualKind .decommission = .lit ∧
  ∀ (s : State) (addr : Byte),
    exec (.commission addr) s = .next (openAnswer .commission { s with conf.commissioned := true }) ∧
    exec (.decommission addr) s = .next (openAnswer .decommission { s with conf.commissioned := false }) ∧
    ∀ (a0 a1 a2 a3 b : Byte),
      (∃ t, exec (.setHostAddr a0 a1 a2 a3 b) (openAnswer .commission { s with conf.commissioned := true }) = .next t ∧
        t.conf.hostAddr = s.conf.hostAddr) ∧
      (∃ t, exec (.setHostAddr a0 a1 a2 a3 b) (openAnswer .decommission { s with conf.commissioned := false }) =
          .next t ∧ t.conf.hostAddr = #v[a0, a1, a2, a3])

/-! Queries. -/

/-- The commands that only report change no register but the dispatcher's, and answer: with an OPEN payload
(GET_OWN_ADDRESS, GET_SETTINGS, GET_HEALTH; log 8), or with the register named or the number of group slots that are not
0xFF, which is the spec's decision D42. -/
def Obligations.QueriesOnlyAnswer : Prop :=
  ∀ (s : State) (addr : Byte),
    exec (.getOwnAddress addr) s = .next (openAnswer .getOwnAddress s) ∧
    exec (.getSettings addr) s = .next (openAnswer .getSettings s) ∧
    exec (.getHealth addr) s = .next (openAnswer .getHealth s) ∧
    exec (.getPercentage addr) s = .next (answer .getPercentage [s.ramp.activePct] s) ∧
    exec (.getTimeout addr) s = .next (answer .getTimeout [s.conf.maxTimeout] s) ∧
    exec (.getLisGroup addr) s = .next (answer .getLisGroup [s.conf.lisGroup] s) ∧
    exec (.getGroup addr) s = .next (answer .getGroup
      [s.conf.groups[0], s.conf.groups[1], s.conf.groups[2], s.conf.groups[3], s.conf.groups[4]] s) ∧
    exec (.getGroupCount addr) s =
      .next (answer .getGroupCount
        [BitVec.ofNat 8 (Finset.card (Finset.univ.filter fun k : Fin 5 => s.conf.groups[k] ≠ 0xFF#8))] s)

/-- GET_SENSOR_DATA answers the presence count and does not clear it; kind Lit (R265). -/
def Obligations.GetSensorDataReports : Prop :=
  Cmd.usualKind .getSensorData = .lit ∧
  ∀ (s : State) (addr : Byte),
    exec (.getSensorData addr) s = .next (answer .getSensorData [s.occ.presentCount] s)

/-! Numeric parameters. -/

/-- `decode2`: two ASCII digits give their decimal value, anything else is UNDEF (R97). -/
def Obligations.DecodeTwoDigits : Prop :=
  (∀ v : Percent, decode2 (BitVec.ofNat 8 (0x30 + v.val / 10)) (BitVec.ofNat 8 (0x30 + v.val % 10)) = some v) ∧
  ∀ hi lo : Byte, decode2 hi lo = none ↔
    ¬((0x30 ≤ hi.toNat ∧ hi.toNat ≤ 0x39) ∧ (0x30 ≤ lo.toNat ∧ lo.toNat ≤ 0x39))

/-- The setters with a two-digit value store it and answer. That these commands are of kind Num2 is the spec's decision
D43, and that STORE_LIS_GROUP sets `lis_mode` its decision D28. -/
def Obligations.NumericSettersStore : Prop :=
  ∀ (s : State) (hi lo addr : Byte) (v : Percent), decode2 hi lo = some v →
    exec (.setSensingFreq hi lo addr) s =
      .next (openAnswer .setSensingFreq { s with conf.sensingPeriod := BitVec.ofNat 8 v.val }) ∧
    exec (.setTimeout hi lo addr) s =
      .next (openAnswer .setTimeout { s with conf.maxTimeout := BitVec.ofNat 8 v.val }) ∧
    exec (.setPowerOnLevel hi lo addr) s =
      .next (openAnswer .setPowerOnLevel { s with conf.powerOnLevel := BitVec.ofNat 8 v.val }) ∧
    exec (.setFadeRate hi lo addr) s =
      .next (openAnswer .setFadeRate { s with conf.fadeRate := BitVec.ofNat 8 v.val }) ∧
    exec (.setFadeDelay hi lo addr) s =
      .next (openAnswer .setFadeDelay { s with conf.fadeDelay := BitVec.ofNat 16 v.val }) ∧
    exec (.storeLisGroup hi lo addr) s =
      .next (openAnswer .storeLisGroup { s with conf.lisGroup := BitVec.ofNat 8 v.val, conf.lisMode := true })

/-- A non-digit parameter raises UNDEF_PARAM: the fault mark is set and nothing else is written, for every command with
a two-digit parameter (R97, R163). That UNDEF faults is the spec's decision D14; that the mark is a next state is log
6. -/
def Obligations.NonDigitRaisesUndefParam : Prop :=
  ∀ (s : State) (hi lo addr : Byte), decode2 hi lo = none →
    ∀ i ∈ [Instr.setSensingFreq hi lo addr, .setTimeout hi lo addr, .setPowerOnLevel hi lo addr, .setLevel hi lo addr,
        .setFadeRate hi lo addr, .setFadeDelay hi lo addr, .setGroup hi lo addr, .setScene hi lo addr,
        .getScene hi lo addr, .gotoScene hi lo addr, .clearScene hi lo addr, .storeLisGroup hi lo addr],
      exec i s = .next { s with fault := some .undefParam }

/-! Dimming (43_dimming.md). -/

/-- `duty_map`, with the corner cases R212 records: not monotone at 11, not injective at 9 and 12, a jump of 66 units
from 66 to 67. -/
def Obligations.DutyMapValues : Prop :=
  (∀ p : Percent,
    (p.val ≤ 10 → (dutyMap p).toNat = 3300 - 24 * p.val) ∧
    (p.val = 11 → (dutyMap p).toNat = 3085) ∧ (p.val = 12 → (dutyMap p).toNat = 3084) ∧
    (p.val = 13 → (dutyMap p).toNat = 3080) ∧ (p.val = 14 → (dutyMap p).toNat = 3075) ∧
    (15 ≤ p.val → p.val ≤ 66 → (dutyMap p).toNat = 3070 - 24 * (p.val - 15)) ∧
    (67 ≤ p.val → p.val ≤ 98 → (dutyMap p).toNat = 1780 - 24 * (p.val - 67)) ∧
    (p.val = 99 → (dutyMap p).toNat = 0)) ∧
  (dutyMap 10).toNat < (dutyMap 11).toNat ∧ dutyMap 9 = dutyMap 12 ∧ (dutyMap 66).toNat - (dutyMap 67).toNat = 66

/-- `isOff(d)` is d ≥ 3300; of the map's values only that of 0 is off, and that of 99 is duty 0, which is not (R214;
what it says of the map's values is derived by the spec from R212). -/
def Obligations.OnlyZeroPercentIsOff : Prop :=
  (∀ d : Half, isOff d = true ↔ 3300 ≤ d.toNat) ∧ (∀ p : Percent, isOff (dutyMap p) = true ↔ p.val = 0) ∧
    dutyMap 99 = 0#16

/-- SET_LEVEL sets the target, the active percentage, the delay and the load as `set_level` says, and answers. When the
load is written at a ramp's start (D18) and without a ramp (D45) are the spec's decisions. -/
def Obligations.SetLevelStartsRamp : Prop :=
  ∀ (s : State) (hi lo addr : Byte) (p : Percent), decode2 hi lo = some p →
    exec (.setLevel hi lo addr) s = .next (openAnswer .setLevel { s with ramp := levelled s.ramp p })

/-- Every step moves the duty toward its target by at most `fade_rate` and never past it, and never writes it otherwise
(R218 items 2 and 3, derived by the spec from R213 and R216). -/
def Obligations.DutyMovesWithinFadeRate : Prop :=
  ∀ s t : State, step s = .next t →
    (s.ramp.currentDuty.toNat ≤ s.ramp.targetDuty.toNat →
      s.ramp.currentDuty.toNat ≤ t.ramp.currentDuty.toNat ∧ t.ramp.currentDuty.toNat ≤ s.ramp.targetDuty.toNat ∧
        t.ramp.currentDuty.toNat ≤ s.ramp.currentDuty.toNat + s.conf.fadeRate.toNat) ∧
    (s.ramp.targetDuty.toNat ≤ s.ramp.currentDuty.toNat →
      s.ramp.targetDuty.toNat ≤ t.ramp.currentDuty.toNat ∧ t.ramp.currentDuty.toNat ≤ s.ramp.currentDuty.toNat ∧
        s.ramp.currentDuty.toNat ≤ t.ramp.currentDuty.toNat + s.conf.fadeRate.toNat)

/-- A ramp with `fade_rate ≥ 1` reaches its target on exactly the tick R218 item 4 names, and a ramp to off ends with
the load off (R217). The item is derived by the spec from R213 and R216. -/
def Obligations.RampCompletesOnItsTick : Prop :=
  ∀ (s : State) (rest : List Event), ready s → s.ramp.busy = true → s.ramp.rampDelay = 0 →
    1 ≤ s.conf.fadeRate.toNat → s.schedule = List.replicate (rampTicks s) .tick ++ rest →
    (∃ t, runs (rampTicks s) s = .next t ∧ t.ramp.currentDuty = s.ramp.targetDuty ∧
      (isOff s.ramp.targetDuty = true → t.ramp.loadOn = false)) ∧
    ∀ j, j < rampTicks s → ∃ t, runs j s = .next t ∧ t.ramp.currentDuty ≠ s.ramp.targetDuty

/-- `target_duty` changes only when no ramp is in progress, and only by SET_LEVEL or GOTO_SCENE: no ramp is ever
redirected (R220, derived by the spec from R213 and R215). -/
def Obligations.NoRampIsRedirected : Prop :=
  ∀ s t : State, step s = .next t → t.ramp.targetDuty ≠ s.ramp.targetDuty →
    s.ramp.currentDuty = s.ramp.targetDuty ∧ (executes s .setLevel ∨ executes s .gotoScene)

/-- With `fade_rate = 0` and a ramp pending, every step leaves the duty, the ramp pending and every persistent
register: no later frame is dispatched (R219, R383, derived by the spec from R215 and R216). -/
def Obligations.ZeroFadeRateHangs : Prop :=
  ∀ s t : State, s.rampHang = true → step s = .next t →
    t.rampHang = true ∧ t.ramp.currentDuty = s.ramp.currentDuty ∧ t.ramp.targetDuty = s.ramp.targetDuty ∧
      t.conf = s.conf

/-! Occupancy (44_occupancy.md). -/

/-- The sensor and relay commands move the occupancy FSM as R251 lists and switch the load as their rules say. What
ENABLE_SENSOR resets (D25) and that the relay commands leave the duty (D22) are the spec's decisions. -/
def Obligations.SensorAndRelayCommands : Prop :=
  ∀ (s : State) (addr : Byte),
    exec (.enableSensor addr) s =
      .next (openAnswer .enableSensor
        { s with occ := { s.occ with sensorEnabled := true, timeoutTicks := 0#8, debounce := 0#8 } }) ∧
    exec (.disableSensor addr) s =
      .next (openAnswer .disableSensor { s with occ := { s.occ with sensorEnabled := false } }) ∧
    exec (.relayOn addr) s =
      .next (openAnswer .relayOn
        { s with
          ramp := { s.ramp with loadOn := true }
          occ := { s.occ with manuallyOff := false, sensorEnabled := false } }) ∧
    exec (.relayOff addr) s =
      .next (openAnswer .relayOff
        { s with
          ramp := { s.ramp with loadOn := false }
          occ := { s.occ with manuallyOff := true, sensorEnabled := false } })

/-- ENABLE_REQUEST_MODE starts a clean window and CLEAR_COUNT clears the presence count only. Both clears are as the
spec's decision D20 says. -/
def Obligations.SamplerCommands : Prop :=
  ∀ (s : State) (addr : Byte),
    exec (.enableRequestMode addr) s =
      .next (openAnswer .enableRequestMode
        { s with occ := { s.occ with requestMode := true, sampleCnt := 0, motionFlag := false } }) ∧
    exec (.clearCount addr) s =
      .next (openAnswer .clearCount { s with occ := { s.occ with presentCount := 0#8 } })

/-- A motion edge sets the flag; while Armed it also resets the counters and, unless manually forced off, switches the
load on; while Disabled it does nothing else. The decisions D20, D21, D22 and D23 of the spec fix these effects. -/
def Obligations.MotionEdge : Prop :=
  ∀ (s : State) (rest : List Event), ready s → s.schedule = .motion :: rest →
    (s.occ.sensorEnabled = false →
      step s = .next { s with schedule := rest, occ := { s.occ with motionFlag := true } }) ∧
    (s.occ.sensorEnabled = true →
      step s = .next
        { s with
          schedule := rest
          ramp := { s.ramp with loadOn := s.ramp.loadOn || !s.occ.manuallyOff }
          occ := { s.occ with motionFlag := true, timeoutTicks := 0#8, debounce := 0#8 } })

/-- A tick on which the minute prescaler wraps, while Armed: the minute counter advances, or at the limit returns to 0
with the load switched off, and the FSM stays Armed (R255, R256; the comparison and the unchanged duty are the spec's
decision D23, the free-running prescaler its decision D24). -/
def Obligations.MinuteEventTimesOut : Prop :=
  ∀ (s : State) (rest : List Event), ready s → s.schedule = .tick :: rest → s.occ.sensorEnabled = true →
    s.cfg.minuteTicks ≤ s.occ.minutePresc + 1 →
    ∃ t, step s = .next t ∧ t.occ.minutePresc = 0 ∧ t.occ.sensorEnabled = true ∧
      t.ramp.targetDuty = s.ramp.targetDuty ∧
      (s.conf.maxTimeout.toNat ≤ s.occ.timeoutTicks.toNat + 1 →
        t.occ.timeoutTicks = 0#8 ∧ t.ramp.loadOn = false) ∧
      (s.occ.timeoutTicks.toNat + 1 < s.conf.maxTimeout.toNat →
        t.occ.timeoutTicks.toNat = s.occ.timeoutTicks.toNat + 1)

/-- The minute prescaler and the load on any tick. The prescaler counts on, and at its end wraps to 0, in every state,
Disabled too (R255; D24). The minute counter moves only while Armed and only at a wrap (R256). The load is left by a
tick that is no timeout and completes no ramp to off (R85, R217, R256; D23). -/
def Obligations.MinuteCounterHolds : Prop :=
  ∀ (s : State) (rest : List Event), ready s → s.schedule = .tick :: rest →
    ∃ t, step s = .next t ∧
      (s.occ.minutePresc + 1 < s.cfg.minuteTicks →
        t.occ.minutePresc = s.occ.minutePresc + 1 ∧ t.occ.timeoutTicks = s.occ.timeoutTicks) ∧
      (s.cfg.minuteTicks ≤ s.occ.minutePresc + 1 → t.occ.minutePresc = 0) ∧
      (s.occ.sensorEnabled = false → t.occ.timeoutTicks = s.occ.timeoutTicks) ∧
      (¬(s.occ.sensorEnabled = true ∧ s.cfg.minuteTicks ≤ s.occ.minutePresc + 1 ∧
          s.conf.maxTimeout.toNat ≤ s.occ.timeoutTicks.toNat + 1) →
        ¬(s.ramp.currentDuty ≠ s.ramp.targetDuty ∧ t.ramp.currentDuty = s.ramp.targetDuty ∧
            isOff s.ramp.targetDuty = true) →
        t.ramp.loadOn = s.ramp.loadOn)

/-- The sampler on a tick: off, it holds; within a window it counts; at the window's end it counts the motion, 254
wrapping to 0, and clears the flag (R257; the window's length is a parameter, decision D4). That `sample_cnt` counts on
without a bound is the model's choice between R57 and R357 (log 11). -/
def Obligations.SamplerTick : Prop :=
  ∀ (s : State) (rest : List Event), ready s → s.schedule = .tick :: rest → s.occ.presentCount.toNat ≤ 254 →
    ∃ t, step s = .next t ∧ t.occ.requestMode = s.occ.requestMode ∧
      (s.occ.requestMode = false →
        t.occ.sampleCnt = s.occ.sampleCnt ∧ t.occ.presentCount = s.occ.presentCount ∧
          t.occ.motionFlag = s.occ.motionFlag) ∧
      (s.occ.requestMode = true → s.occ.sampleCnt + 1 < s.cfg.sampleWindowTicks s.conf.sensingPeriod →
        t.occ.sampleCnt = s.occ.sampleCnt + 1 ∧ t.occ.presentCount = s.occ.presentCount ∧
          t.occ.motionFlag = s.occ.motionFlag) ∧
      (s.occ.requestMode = true → s.cfg.sampleWindowTicks s.conf.sensingPeriod ≤ s.occ.sampleCnt + 1 →
        t.occ.sampleCnt = 0 ∧ t.occ.motionFlag = false ∧
          t.occ.presentCount.toNat =
            if s.occ.motionFlag then (if s.occ.presentCount.toNat = 254 then 0 else s.occ.presentCount.toNat + 1)
            else s.occ.presentCount.toNat)

/-- The present-count law: after k windows that each saw a motion edge, from c, the count is (c + k) mod 255 (R267,
derived by the spec from R257 and R266). -/
def Obligations.PresentCountLaw : Prop :=
  ∀ (o : Occupancy) (k : Nat), o.presentCount.toNat ≤ 254 →
    ((fun w : Occupancy => { w with motionFlag := true }.windowEnd)^[k] o).presentCount.toNat =
      (o.presentCount.toNat + k) % 255

/-! Registry (45_registry.md). -/

/-- SET_GROUP writes the slot at `group_wp` and moves it on, from 4 back to 0. The 2-digit form and the absence of a
duplicate check are the spec's decision D26. The premise on `group_wp` is a part of the invariant. -/
def Obligations.SetGroupInsertsCircularly : Prop :=
  ∀ (s : State) (hi lo addr : Byte) (v : Percent), decode2 hi lo = some v → s.groupWp.toNat < 5 →
    exec (.setGroup hi lo addr) s =
      .next (openAnswer .setGroup
        { s with
          conf := { s.conf with groups := s.conf.groups.setIfInBounds s.groupWp.toNat (BitVec.ofNat 8 v.val) }
          groupWp := if s.groupWp.toNat = 4 then 0#3 else s.groupWp + 1#3 })

/-- CLEAR_GROUP empties all five slots and rewinds `group_wp`; CLEAR_LIS_GROUP writes 0xFF and clears the flag. What
CLEAR_GROUP clears is the spec's decision D26, and the LIS values its decision D28. -/
def Obligations.ClearGroupAndLis : Prop :=
  ∀ (s : State) (addr : Byte),
    exec (.clearGroup addr) s =
      .next (openAnswer .clearGroup
        { s with
          conf := { s.conf with groups := #v[0xFF#8, 0xFF#8, 0xFF#8, 0xFF#8, 0xFF#8] }
          groupWp := 0#3 }) ∧
    exec (.clearLisGroup addr) s =
      .next (openAnswer .clearLisGroup { s with conf := { s.conf with lisGroup := 0xFF#8, lisMode := false } })

/-- SET_SCENE, GET_SCENE and CLEAR_SCENE on scene n = k + 1, for each of the five slots. The form of the index (D27,
D43) and the payload of GET_SCENE (D42) are the spec's decisions. -/
def Obligations.SceneCommands : Prop :=
  ∀ (s : State) (hi lo addr : Byte) (k : Fin 5), (decode2 hi lo).map (·.val) = some (k.val + 1) →
    exec (.setScene hi lo addr) s =
      .next (openAnswer .setScene
        { s with conf := { s.conf with scenes := s.conf.scenes.setIfInBounds k.val s.ramp.activePct } }) ∧
    exec (.getScene hi lo addr) s = .next (answer .getScene [s.conf.scenes[k]] s) ∧
    exec (.clearScene hi lo addr) s =
      .next (openAnswer .clearScene
        { s with conf := { s.conf with scenes := s.conf.scenes.setIfInBounds k.val 99#8 } })

/-- GOTO_SCENE on scene n = k + 1: a level below 99 goes through `set_level`, 99 is unset and changes no dimming
register but still answers, and a value above 99 raises UNDEF_PARAM. The unset reading and the fault are the spec's
decisions D27 and D14; that the fault mark is a next state is log 6. -/
def Obligations.GotoSceneRecalls : Prop :=
  ∀ (s : State) (hi lo addr : Byte) (k : Fin 5), (decode2 hi lo).map (·.val) = some (k.val + 1) →
    (∀ p : Percent, p.val < 99 → s.conf.scenes[k].toNat = p.val →
      exec (.gotoScene hi lo addr) s = .next (openAnswer .gotoScene { s with ramp := levelled s.ramp p })) ∧
    (s.conf.scenes[k].toNat = 99 → exec (.gotoScene hi lo addr) s = .next (openAnswer .gotoScene s)) ∧
    (99 < s.conf.scenes[k].toNat → exec (.gotoScene hi lo addr) s = .next { s with fault := some .undefParam })

/-- A scene index that decodes to 0 or to more than 5 raises UNDEF_PARAM with no other write, for the four scene
commands. That it faults is the spec's decision D27; that the mark is a next state is log 6. -/
def Obligations.SceneIndexOutOfRangeRaises : Prop :=
  ∀ (s : State) (hi lo addr : Byte) (n : Percent), decode2 hi lo = some n → n.val = 0 ∨ 5 < n.val →
    ∀ i ∈ [Instr.setScene hi lo addr, .getScene hi lo addr, .gotoScene hi lo addr, .clearScene hi lo addr],
      exec i s = .next { s with fault := some .undefParam }

/-! Store and system (46_system.md). -/

/-- WRITE_FLASH emits one NvCommit with the image of the mirror and answers; FACTORY_RESET first writes every default
and rewinds `group_wp`; IDENTIFY emits one Blink and leaves duty and load. The scope of the factory reset is the spec's
decision D35, the atomic commit and the layout of the image its D39, the one abstract pulse its D37. -/
def Obligations.EmittingCommands : Prop :=
  ∀ (s : State) (addr : Byte),
    laidOut s.conf (imageOf s.conf) ∧ laidOut s.cfg.defaults (imageOf s.cfg.defaults) ∧
    exec (.writeFlash addr) s =
      .next (openAnswer .writeFlash { s with outputs := s.outputs ++ [.nvCommit (imageOf s.conf)] }) ∧
    exec (.factoryReset addr) s =
      .next (openAnswer .factoryReset
        { s with
          conf := s.cfg.defaults
          groupWp := 0#3
          outputs := s.outputs ++ [.nvCommit (imageOf s.cfg.defaults)] }) ∧
    exec (.identify addr) s = .next (openAnswer .identify { s with outputs := s.outputs ++ [.blink] })

/-- CMD38 stops: the refusal mark is set, no response, no dedupe write, and the marked state is refused by its next step
(R326; that the mark is a next state is log 6). -/
def Obligations.UnnamedCommandIsRefused : Prop :=
  ∀ (s : State) (addr : Byte),
    exec (.cmd38 addr) s = .next { s with refused := some .cmd38Unknown } ∧
    (s.cfg.wf = true → s.fault = none → step { s with refused := some .cmd38Unknown } = .refused .cmd38Unknown)

/-- Identity frame: IdentFrame with the four bytes, the identity no longer awaited, the frame ended, `dedupe` kept. The
spec's decision D8. -/
def Obligations.IdentityFrameDelivered : Prop :=
  ∀ (s : State) (i0 i1 i2 i3 : Byte),
    exec (.identityFrame i0 i1 i2 i3) s =
      .next
        { s with
          outputs := s.outputs ++ [.identFrame i0 i1 i2 i3]
          asm := { s.asm with awaitingIdentity := false, fill := 0#4 } }

/-! Steps and events (41_dispatcher.md, 40_frame_assembler.md, 60_exceptions.md). -/

/-- A step runs the decoded frame: when the next event is an enabled Dispatch and the held frame passes the filter,
decodes to i and is no duplicate, the step is `exec i` from the state with the event (log 3) and the frame taken (R150
to R152). -/
def Obligations.StepRunsDecodedFrame : Prop :=
  ∀ (s : State) (i : Instr), dispatching s → addrOk s s.asm.fhold[7] = true →
    decodeFrame s.cfg.templates s.asm.fhold = .ok i → (∀ c, i.cmd = some c → s.disp.dedupe ≠ s.cfg.idOf c) →
    step s = exec i (dropped s)

/-- A step runs the identity frame: on the timer's last tick in identity mode with four bytes received, they decode to
an identity frame i, and the step is `exec i` with the timer disarmed, followed by the ramp's and the occupancy unit's
tick (R126, R351; D8, D36). -/
def Obligations.StepRunsIdentityFrame : Prop :=
  ∀ (s : State) (rest : List Event), ready s → s.schedule = .tick :: rest → s.asm.identMode = true →
    s.asm.fill = 4#4 → s.asm.idleArmed = true → s.asm.idleCnt ≤ 1 →
    ∃ i t, decode s.cfg.templates [s.asm.fbuf[0], s.asm.fbuf[1], s.asm.fbuf[2], s.asm.fbuf[3]] = .ok i ∧
      exec i { s with
        schedule := rest
        asm := { s.asm with idleArmed := false, idleCnt := 0, identMode := false } } = .next t ∧
      step s = .next (occupancyTick (rampTick t))

/-- The address filter: 254, an occupied group slot, or the own address passes; a frame that does not is dropped with
`frame_pending` the only register written (R154). -/
def Obligations.AddressFilter : Prop :=
  (∀ (s : State) (a : Byte), addrOk s a = true ↔
    a = 254#8 ∨ (∃ k : Fin 5, s.conf.groups[k] ≠ 0xFF#8 ∧ s.conf.groups[k] = a) ∨ s.cfg.ownAddr = some a) ∧
  ∀ s : State, dispatching s → addrOk s s.asm.fhold[7] = false → step s = .next (dropped s)

/-- A payload that no template accepts is dropped: only `frame_pending` is written (R158). -/
def Obligations.UnmatchedFrameDropped : Prop :=
  ∀ s : State, dispatching s → (∀ t ∈ s.cfg.templates, t.accepts (payload s.asm.fhold) = false) →
    step s = .next (dropped s)

/-- A frame whose command id equals `dedupe` is dropped, whatever its parameters: only `frame_pending` is written
(R159). -/
def Obligations.DuplicateSuppressed : Prop :=
  ∀ (s : State) (i : Instr) (c : Cmd), dispatching s → decodeFrame s.cfg.templates s.asm.fhold = .ok i →
    i.cmd = some c → s.disp.dedupe = s.cfg.idOf c → step s = .next (dropped s)

/-- Dispatch is enabled exactly under the conditions of R150. While no frame is pending, a response waits or a ramp
runs, a Dispatch that comes next passes with no effect, which is the model's choice (log 3). -/
def Obligations.DispatchWaits : Prop :=
  (∀ s : State, dispatchEnabled s = true ↔
    s.asm.framePending = true ∧ s.disp.dispState = .idle ∧ s.ramp.currentDuty = s.ramp.targetDuty ∧ s.fault = none ∧
      s.refused = none) ∧
  ∀ s : State, ready s → s.nextEvent = .dispatch →
    s.asm.framePending = false ∨ s.disp.dispState = .waitResp ∨ s.ramp.currentDuty ≠ s.ramp.targetDuty →
    step s = .next (takeEvent s)

/-- A recorded fault or refusal has no further step, and a configuration that is not well formed is refused before any
step (R9, R12; D2, D38; log 6, log 7). -/
def Obligations.MarkedStateHasNoStep : Prop :=
  (∀ (s : State) (r : Fault), s.cfg.wf = true → s.fault = some r → step s = .fault r) ∧
  (∀ (s : State) (r : Refusal), s.cfg.wf = true → s.fault = none → s.refused = some r → step s = .refused r) ∧
  ∀ s : State, s.cfg.wf = false → step s = .refused .badConfig

/-- A received 0, 10, 13 or 255 changes no register (R120; that it does not touch the timer is the spec's decision
D7). -/
def Obligations.FilteredByteChangesNothing : Prop :=
  ∀ (s : State) (b : Byte) (rest : List Event), ready s → s.schedule = .rxByte b :: rest →
    (b.toNat = 0 ∨ b.toNat = 10 ∨ b.toNat = 13 ∨ b.toNat = 255) → step s = .next { s with schedule := rest }

/-- An accepted byte before the eighth: it is stored at the fill index, the first one arms the timer with the gap of its
mode and latches the mode, a later one leaves the timer (R121, R122, R123; D7, D8). -/
def Obligations.AcceptedByteStored : Prop :=
  ∀ (s : State) (b : Byte) (rest : List Event), ready s → s.schedule = .rxByte b :: rest → isFiltered b = false →
    (s.asm.fill = 0#4 →
      step s = .next
        { s with
          schedule := rest
          asm := { s.asm with
            fbuf := s.asm.fbuf.setIfInBounds 0 b
            fill := 1#4
            idleArmed := true
            identMode := s.asm.awaitingIdentity
            idleCnt := if s.asm.awaitingIdentity then s.cfg.identGapTicks else s.cfg.idleGapTicks } }) ∧
    (0 < s.asm.fill.toNat → s.asm.fill.toNat < 7 →
      step s = .next
        { s with
          schedule := rest
          asm := { s.asm with
            fbuf := s.asm.fbuf.setIfInBounds s.asm.fill.toNat b
            fill := s.asm.fill + 1#4 } })

/-- The eighth accepted byte hands the whole frame over if none is pending and is lost otherwise, ends the frame, and
stops the timer iff the parameter says Disarm (R124, R125; D6, D13). -/
def Obligations.EighthByteCompletes : Prop :=
  ∀ (s : State) (b : Byte) (rest : List Event), ready s → s.schedule = .rxByte b :: rest → isFiltered b = false →
    s.asm.fill = 7#4 →
    ∃ t, step s = .next t ∧ t.asm.framePending = true ∧ t.asm.fill = 0#4 ∧ t.asm.identMode = false ∧
      t.asm.awaitingIdentity = s.asm.awaitingIdentity ∧ t.disp = s.disp ∧
      (s.asm.framePending = false → t.asm.fhold = s.asm.fbuf.setIfInBounds 7 b) ∧
      (s.asm.framePending = true → t.asm.fhold = s.asm.fhold) ∧
      (s.cfg.idleExpiry = .disarm → t.asm.idleArmed = false ∧ t.asm.idleCnt = 0) ∧
      (s.cfg.idleExpiry = .runOut → t.asm.idleArmed = s.asm.idleArmed ∧ t.asm.idleCnt = s.asm.idleCnt)

/-- A partial frame whose timer has n ticks left is discarded on exactly the n-th tick with `dedupe` cleared, unless it
is an identity frame, and stays in progress before it (R126, R127; derived by the spec from R122 and R126; D8). -/
def Obligations.PartialFrameTimesOut : Prop :=
  ∀ (s : State) (n : Nat) (rest : List Event), ready s → s.asm.idleArmed = true → s.asm.idleCnt = n → 1 ≤ n →
    ¬(s.asm.identMode = true ∧ s.asm.fill = 4#4) → s.schedule = List.replicate n .tick ++ rest →
    (∃ t, runs n s = .next t ∧ t.asm.fill = 0#4 ∧ t.asm.idleArmed = false ∧ t.asm.identMode = false ∧
      t.asm.awaitingIdentity = s.asm.awaitingIdentity ∧ t.disp.dedupe = 0xFF#8 ∧ t.outputs = s.outputs) ∧
    ∀ k, k < n → ∃ t, runs k s = .next t ∧ t.asm.fill = s.asm.fill ∧ t.asm.idleCnt = n - k ∧ t.disp = s.disp

/-- IdentRequest sets `awaiting_identity` and nothing else (R129; D8). -/
def Obligations.IdentRequestAwaits : Prop :=
  ∀ (s : State) (rest : List Event), ready s → s.schedule = .identRequest :: rest →
    step s = .next { s with schedule := rest, asm := { s.asm with awaitingIdentity := true } }

/-- RespReady hands the held response over and frees the dispatcher; while it is Idle the event is not enabled and its
entry passes with no effect (R181, R349; D16; log 3). -/
def Obligations.RespReadyHandsOver : Prop :=
  ∀ (s : State) (rest : List Event), ready s → s.schedule = .respReady :: rest →
    (∀ r, s.disp.dispState = .waitResp → s.disp.respBuf = some r →
      step s = .next
        { s with
          schedule := rest
          outputs := s.outputs ++ [.resp r]
          disp := { s.disp with respBuf := none, dispState := .idle } }) ∧
    (s.disp.dispState = .idle → step s = .next { s with schedule := rest })

/-- A response that is not accepted hangs dispatch: every step but RespReady leaves the dispatcher waiting with the same
response, every persistent register, and a frame that waits (R182, R384; the kept hang is the spec's decision D16). -/
def Obligations.UnacceptedResponseHangs : Prop :=
  ∀ s t : State, s.disp.dispState = .waitResp → s.nextEvent ≠ .respReady → step s = .next t →
    t.disp.dispState = .waitResp ∧ t.disp.respBuf = s.disp.respBuf ∧ t.conf = s.conf ∧
      (s.asm.framePending = true → t.asm.framePending = true ∧ t.asm.fhold = s.asm.fhold)

/-! Whole-machine rules. -/

/-- No event but an executed command writes a configuration register, the group pointer, the target duty, the active
percentage or a mode of the occupancy unit (R85, R360: the host can never write a register). -/
def Obligations.OnlyDispatchWritesConfiguration : Prop :=
  ∀ s t : State, step s = .next t → ¬dispatching s →
    t.conf = s.conf ∧ t.groupWp = s.groupWp ∧ t.ramp.targetDuty = s.ramp.targetDuty ∧
      t.ramp.activePct = s.ramp.activePct ∧ t.occ.sensorEnabled = s.occ.sensorEnabled ∧
      t.occ.requestMode = s.occ.requestMode ∧ t.occ.manuallyOff = s.occ.manuallyOff

/-- The commissioning lock: while commissioned, the host address changes only by RESET_HOST_ADDR or FACTORY_RESET, and
the flag is cleared only by DECOMMISSION or FACTORY_RESET (R356; D29, D30, D35). -/
def Obligations.CommissioningLockHolds : Prop :=
  ∀ s t : State, step s = .next t → s.conf.commissioned = true →
    (t.conf.hostAddr ≠ s.conf.hostAddr → executes s .resetHostAddr ∨ executes s .factoryReset) ∧
    (t.conf.commissioned = false → executes s .decommission ∨ executes s .factoryReset)

/-- The store is written only by WRITE_FLASH and FACTORY_RESET (R81), and then with the image of the mirror as the step
leaves it (R320; the layout is the spec's decision D39). That outputs are a list which only grows is the model's choice
(log 4). -/
def Obligations.StoreWrittenOnlyByCommand : Prop :=
  ∀ s t : State, step s = .next t →
    ∃ new, t.outputs = s.outputs ++ new ∧
      ∀ img, Output.nvCommit img ∈ new →
        (executes s .writeFlash ∨ executes s .factoryReset) ∧ img = imageOf t.conf

/-- No step writes the parameters: R73 says it of the template table, and that the others stand beside it as data no
step writes is the model's form (log 1). Every step takes the schedule's first event, if it holds one, which is the
model's form of a run (log 3). -/
def Obligations.ParametersNeverWritten : Prop :=
  ∀ s t : State, step s = .next t → t.cfg = s.cfg ∧ t.schedule = s.schedule.tail

/-! Decoding and encoding (30_encoding.md). -/

/-- The matcher gives the first template in table order that accepts the payload: all before it do not (R157). -/
def Obligations.FirstMatchWins : Prop :=
  ∀ (ts : List Template) (p : List Byte) (t : Template), matchTemplate ts p = some t ↔
    ∃ before after, ts = before ++ t :: after ∧ (∀ j, j < t.P → p[j]? = t.pre[j]?) ∧
      ∀ u ∈ before, ¬∀ j, j < u.P → p[j]? = u.pre[j]?

/-- The fixed SET_LEVEL row reads "ADSPL50" + addr=254 as SET_LEVEL with digits '5' and '0', whatever rows follow it
(R103; the order of rows is a parameter), and four bytes are an identity frame (R107). That a word of 32 bits is those
four bytes, and that the first byte of a word is the lowest, is the model's choice (log 15). -/
def Obligations.KnownWordsDecode : Prop :=
  ∀ ts : List Template,
    decodeWordWith (⟨0, .setLevel, .num2, 5, [0x41#8, 0x44#8, 0x53#8, 0x50#8, 0x4C#8]⟩ :: ts) 64 0xFE30354C50534441 =
      some (.setLevel 0x35#8 0x30#8 0xFE#8) ∧
    decodeWordWith ts 32 0x42413231 = some (.identityFrame 0x31#8 0x32#8 0x41#8 0x42#8)

/-- Under a table that passes the check, the id a command has is the position of the row that matched its frame (R101,
R102: the table index and its uniqueness are the spec's decision D11). -/
def Obligations.MatchedIdIsTablePosition : Prop :=
  ∀ (ts : List Template) (p : List Byte) (t : Template), tableOk ts = true → matchTemplate ts p = some t →
    ts[t.id]? = some t ∧ t.id < 38 ∧ (idOf ts t.name).toNat = t.id

/-- Decode and encode agree on every instruction with every operand, under a table that passes the check, has the kinds
of R104 and in which no row hides another. -/
def Obligations.DecodeEncodeAgree : Prop :=
  ∀ (ts : List Template) (i : Instr), tableOk ts = true → usualKinds ts = true → prefixFree ts = true →
    decode ts (encode ts i) = .ok i

/-- A held frame decodes to a well-formed instruction only: none of its bytes is a filtered one (R92, R386). -/
def Obligations.HeldFramesAreWellFormed : Prop :=
  ∀ (s : State) (i : Instr), s.Inv → s.asm.framePending = true →
    decodeFrame s.cfg.templates s.asm.fhold = .ok i → i.wf = true

/-! Reset, load and the invariant (70_reset_and_hazards.md). -/

/-- The state after reset, under any parameters and image: assembler empty, dispatcher Idle with no id, ramp at rest at
off, occupancy Disabled, every counter and flag 0, the persistent registers loaded. Every value but the dedupe's and
the load is the spec's decision D34. Parameters that are not well formed leave the refusal mark (R344, D38, log 7). -/
def Obligations.ResetValues : Prop :=
  State.reset = State.resetWith Config.params Config.cfgImage ∧
  ∀ (p : Params) (img : Image),
    let s := State.resetWith p img
    s.cfg = p ∧ s.conf = loadImage p.defaults img ∧ s.groupWp = 0#3 ∧
    s.asm.fill = 0#4 ∧ s.asm.idleArmed = false ∧ s.asm.idleCnt = 0 ∧ s.asm.identMode = false ∧
    s.asm.awaitingIdentity = false ∧ s.asm.framePending = false ∧ s.disp = ⟨0xFF#8, .idle, none⟩ ∧
    s.ramp = ⟨3300#16, 3300#16, 0, 0#8, false⟩ ∧ s.occ = ⟨0#8, false, false, false, 0#8, 0, 0#8, false, 0⟩ ∧
    s.fault = none ∧ (p.wf = true → s.refused = none) ∧ (p.wf = false → s.refused = some .badConfig)

/-- The load, field by field at the offsets of R43: an erased one-byte field takes its default, any other byte is the
value; a flag reads 1 from any byte but 0x00 and 0xFF; an address takes its default only when all its four bytes are
erased, the fade delay, high byte first, only when both are; each group slot and each scene slot is a field of its own
(R372). The offsets are the spec's decision D39, the erased fields its D31. -/
def Obligations.LoadFieldByField : Prop :=
  ∀ (d : Persistent) (img : Image),
    (loadImage d img).sensingPeriod = (if img[0] = 0xFF#8 then d.sensingPeriod else img[0]) ∧
    (loadImage d img).maxTimeout = (if img[1] = 0xFF#8 then d.maxTimeout else img[1]) ∧
    (loadImage d img).hostAddr =
      (if img[2] = 0xFF#8 ∧ img[3] = 0xFF#8 ∧ img[4] = 0xFF#8 ∧ img[5] = 0xFF#8 then d.hostAddr
       else #v[img[2], img[3], img[4], img[5]]) ∧
    (loadImage d img).pollAddr =
      (if img[6] = 0xFF#8 ∧ img[7] = 0xFF#8 ∧ img[8] = 0xFF#8 ∧ img[9] = 0xFF#8 then d.pollAddr
       else #v[img[6], img[7], img[8], img[9]]) ∧
    (img[10] = 0xFF#8 → (loadImage d img).commissioned = d.commissioned) ∧
    (img[10] ≠ 0xFF#8 → ((loadImage d img).commissioned = false ↔ img[10] = 0x00#8)) ∧
    (loadImage d img).fadeRate = (if img[11] = 0xFF#8 then d.fadeRate else img[11]) ∧
    (img[12] = 0xFF#8 ∧ img[13] = 0xFF#8 → (loadImage d img).fadeDelay = d.fadeDelay) ∧
    (¬(img[12] = 0xFF#8 ∧ img[13] = 0xFF#8) →
      (loadImage d img).fadeDelay.toNat = img[12].toNat * 256 + img[13].toNat) ∧
    (loadImage d img).powerOnLevel = (if img[14] = 0xFF#8 then d.powerOnLevel else img[14]) ∧
    (∀ k : Fin 5, (loadImage d img).groups[k] =
      (if img[15 + k.val] = 0xFF#8 then d.groups[k] else img[15 + k.val])) ∧
    (∀ k : Fin 5, (loadImage d img).scenes[k] =
      (if img[20 + k.val] = 0xFF#8 then d.scenes[k] else img[20 + k.val])) ∧
    (img[25] = 0xFF#8 → (loadImage d img).lisMode = d.lisMode) ∧
    (img[25] ≠ 0xFF#8 → ((loadImage d img).lisMode = false ↔ img[25] = 0x00#8)) ∧
    (loadImage d img).lisGroup = (if img[26] = 0xFF#8 then d.lisGroup else img[26])

/-- An erased store, and the image a factory reset commits, load every persistent field to its default (R374 items 1 and
2, derived by the spec from R322 and R372). -/
def Obligations.DefaultsLoadBack : Prop :=
  ∀ d : Persistent, loadImage d (Vector.replicate 27 0xFF#8) = d ∧ loadImage d (imageOf d) = d

/-- A configuration loaded at reset, from any image under any defaults, is one whose commit loads back equal in every
field (R374 item 3, derived by the spec). -/
def Obligations.ResetImageLoadsBack : Prop :=
  ∀ (p : Params) (img : Image), (State.resetWith p img).imageLoadsBack

/-- Every step keeps it that a commit loads back equal in every field: `commit(config)` then `load()` is the identity in
every state a run reaches (R374 item 3, R321, derived by the spec). -/
def Obligations.StepKeepsImageLoadsBack : Prop :=
  ∀ s t : State, s.Inv → s.imageLoadsBack → step s = .next t → t.imageLoadsBack

/-- The invariant holds after reset, under any well-formed parameters and any image. -/
def Obligations.ResetHasInv : Prop :=
  ∀ (p : Params) (img : Image), p.wf = true → (State.resetWith p img).Inv

/-- Every step keeps the invariant of the registers: the bounds of R23, R28, R39, R46, R48, R55, R56 and R357, the frame
bytes unfiltered, the timer running while a frame is partial, a response held iff the dispatcher waits. -/
def Obligations.StepKeepsInv : Prop :=
  ∀ s t : State, s.Inv → step s = .next t → t.Inv
end

