-- ==== Sys2Proof/Laws/Decode.lean ====
section
/-! SUPPORT. Lemmas about the matcher, the fields of a frame and the two-way relation between names and fields. -/

namespace Sys2Proof

/-- The template test, as R156 states it. -/
theorem Template.accepts_iff (t : Template) (p : List Byte) :
    t.accepts p = true ↔ ∀ j, j < t.P → p[j]? = t.pre[j]? := by
  simp [Template.accepts]

/-- A matched template is a row of the table that accepts the payload. -/
theorem matchTemplate_some {ts : List Template} {p : List Byte} {t : Template} (h : matchTemplate ts p = some t) :
    t ∈ ts ∧ t.accepts p = true := by
  unfold matchTemplate at h
  exact ⟨List.mem_of_find?_eq_some h, by simpa using List.find?_some h⟩

/-- The command of a frame's instruction is the matched row's. -/
@[simp] theorem Instr.ofFrame_cmd (c : Cmd) (f : Frame8) : (Instr.ofFrame c f).cmd = some c := by
  cases c <;> rfl

/-- The address of a frame's instruction is the frame's last byte (R93). -/
@[simp] theorem Instr.ofFrame_lastByte (c : Cmd) (f : Frame8) : (Instr.ofFrame c f).lastByte = f[7] := by
  cases c <;> rfl

end Sys2Proof
end

