-- ==== Sys2Proof/Laws/State.lean ====
section
/-! SUPPORT. One lemma per field for each named update of the state, so that no later proof unfolds a record update. -/

namespace Sys2Proof.Machine

/-! The fields after `emit`. -/

@[simp] theorem emit_cfg (o : Output) (s : State) : (emit o s).cfg = s.cfg := rfl

@[simp] theorem emit_asm (o : Output) (s : State) : (emit o s).asm = s.asm := rfl

@[simp] theorem emit_disp (o : Output) (s : State) : (emit o s).disp = s.disp := rfl

@[simp] theorem emit_conf (o : Output) (s : State) : (emit o s).conf = s.conf := rfl

@[simp] theorem emit_groupWp (o : Output) (s : State) : (emit o s).groupWp = s.groupWp := rfl

@[simp] theorem emit_ramp (o : Output) (s : State) : (emit o s).ramp = s.ramp := rfl

@[simp] theorem emit_occ (o : Output) (s : State) : (emit o s).occ = s.occ := rfl

@[simp] theorem emit_fault (o : Output) (s : State) : (emit o s).fault = s.fault := rfl

@[simp] theorem emit_refused (o : Output) (s : State) : (emit o s).refused = s.refused := rfl

@[simp] theorem emit_schedule (o : Output) (s : State) : (emit o s).schedule = s.schedule := rfl

@[simp] theorem emit_eventNo (o : Output) (s : State) : (emit o s).eventNo = s.eventNo := rfl

@[simp] theorem emit_outputs (o : Output) (s : State) : (emit o s).outputs = s.outputs ++ [o] := rfl

/-! The fields after `commit`. -/

@[simp] theorem commit_cfg (s : State) : (commit s).cfg = s.cfg := rfl

@[simp] theorem commit_asm (s : State) : (commit s).asm = s.asm := rfl

@[simp] theorem commit_disp (s : State) : (commit s).disp = s.disp := rfl

@[simp] theorem commit_conf (s : State) : (commit s).conf = s.conf := rfl

@[simp] theorem commit_groupWp (s : State) : (commit s).groupWp = s.groupWp := rfl

@[simp] theorem commit_ramp (s : State) : (commit s).ramp = s.ramp := rfl

@[simp] theorem commit_occ (s : State) : (commit s).occ = s.occ := rfl

@[simp] theorem commit_fault (s : State) : (commit s).fault = s.fault := rfl

@[simp] theorem commit_refused (s : State) : (commit s).refused = s.refused := rfl

@[simp] theorem commit_schedule (s : State) : (commit s).schedule = s.schedule := rfl

@[simp] theorem commit_eventNo (s : State) : (commit s).eventNo = s.eventNo := rfl

@[simp] theorem commit_outputs (s : State) : (commit s).outputs = s.outputs ++ [.nvCommit (imageOf s.conf)] := rfl

/-! The fields after `executedSilently`. -/

@[simp] theorem executedSilently_cfg (c : Cmd) (s : State) : (executedSilently c s).cfg = s.cfg := rfl

@[simp] theorem executedSilently_asm (c : Cmd) (s : State) : (executedSilently c s).asm = s.asm := rfl

@[simp] theorem executedSilently_disp (c : Cmd) (s : State) :
    (executedSilently c s).disp = { s.disp with dedupe := s.cfg.idOf c } := rfl

@[simp] theorem executedSilently_conf (c : Cmd) (s : State) : (executedSilently c s).conf = s.conf := rfl

@[simp] theorem executedSilently_groupWp (c : Cmd) (s : State) : (executedSilently c s).groupWp = s.groupWp := rfl

@[simp] theorem executedSilently_ramp (c : Cmd) (s : State) : (executedSilently c s).ramp = s.ramp := rfl

@[simp] theorem executedSilently_occ (c : Cmd) (s : State) : (executedSilently c s).occ = s.occ := rfl

@[simp] theorem executedSilently_fault (c : Cmd) (s : State) : (executedSilently c s).fault = s.fault := rfl

@[simp] theorem executedSilently_refused (c : Cmd) (s : State) : (executedSilently c s).refused = s.refused := rfl

@[simp] theorem executedSilently_schedule (c : Cmd) (s : State) : (executedSilently c s).schedule = s.schedule := rfl

@[simp] theorem executedSilently_eventNo (c : Cmd) (s : State) : (executedSilently c s).eventNo = s.eventNo := rfl

@[simp] theorem executedSilently_outputs (c : Cmd) (s : State) : (executedSilently c s).outputs = s.outputs := rfl

/-! The fields after `executed`. -/

@[simp] theorem executed_cfg (c : Cmd) (p : List Byte) (s : State) : (executed c p s).cfg = s.cfg := rfl

@[simp] theorem executed_asm (c : Cmd) (p : List Byte) (s : State) : (executed c p s).asm = s.asm := rfl

@[simp] theorem executed_conf (c : Cmd) (p : List Byte) (s : State) : (executed c p s).conf = s.conf := rfl

@[simp] theorem executed_groupWp (c : Cmd) (p : List Byte) (s : State) : (executed c p s).groupWp = s.groupWp := rfl

@[simp] theorem executed_ramp (c : Cmd) (p : List Byte) (s : State) : (executed c p s).ramp = s.ramp := rfl

@[simp] theorem executed_occ (c : Cmd) (p : List Byte) (s : State) : (executed c p s).occ = s.occ := rfl

@[simp] theorem executed_fault (c : Cmd) (p : List Byte) (s : State) : (executed c p s).fault = s.fault := rfl

@[simp] theorem executed_refused (c : Cmd) (p : List Byte) (s : State) : (executed c p s).refused = s.refused := rfl

@[simp] theorem executed_schedule (c : Cmd) (p : List Byte) (s : State) : (executed c p s).schedule = s.schedule := rfl

@[simp] theorem executed_eventNo (c : Cmd) (p : List Byte) (s : State) : (executed c p s).eventNo = s.eventNo := rfl

@[simp] theorem executed_outputs (c : Cmd) (p : List Byte) (s : State) : (executed c p s).outputs = s.outputs := rfl

/-! The fields after `executedOpen`. -/

@[simp] theorem executedOpen_cfg (c : Cmd) (s : State) : (executedOpen c s).cfg = s.cfg := rfl

@[simp] theorem executedOpen_asm (c : Cmd) (s : State) : (executedOpen c s).asm = s.asm := rfl

@[simp] theorem executedOpen_conf (c : Cmd) (s : State) : (executedOpen c s).conf = s.conf := rfl

@[simp] theorem executedOpen_groupWp (c : Cmd) (s : State) : (executedOpen c s).groupWp = s.groupWp := rfl

@[simp] theorem executedOpen_ramp (c : Cmd) (s : State) : (executedOpen c s).ramp = s.ramp := rfl

@[simp] theorem executedOpen_occ (c : Cmd) (s : State) : (executedOpen c s).occ = s.occ := rfl

@[simp] theorem executedOpen_fault (c : Cmd) (s : State) : (executedOpen c s).fault = s.fault := rfl

@[simp] theorem executedOpen_refused (c : Cmd) (s : State) : (executedOpen c s).refused = s.refused := rfl

@[simp] theorem executedOpen_schedule (c : Cmd) (s : State) : (executedOpen c s).schedule = s.schedule := rfl

@[simp] theorem executedOpen_eventNo (c : Cmd) (s : State) : (executedOpen c s).eventNo = s.eventNo := rfl

@[simp] theorem executedOpen_outputs (c : Cmd) (s : State) : (executedOpen c s).outputs = s.outputs := rfl

/-! `takeEvent`. -/

@[simp] theorem takeEvent_cfg (s : State) : (takeEvent s).cfg = s.cfg := rfl

@[simp] theorem takeEvent_asm (s : State) : (takeEvent s).asm = s.asm := rfl

@[simp] theorem takeEvent_disp (s : State) : (takeEvent s).disp = s.disp := rfl

@[simp] theorem takeEvent_conf (s : State) : (takeEvent s).conf = s.conf := rfl

@[simp] theorem takeEvent_groupWp (s : State) : (takeEvent s).groupWp = s.groupWp := rfl

@[simp] theorem takeEvent_ramp (s : State) : (takeEvent s).ramp = s.ramp := rfl

@[simp] theorem takeEvent_occ (s : State) : (takeEvent s).occ = s.occ := rfl

@[simp] theorem takeEvent_fault (s : State) : (takeEvent s).fault = s.fault := rfl

@[simp] theorem takeEvent_refused (s : State) : (takeEvent s).refused = s.refused := rfl

@[simp] theorem takeEvent_outputs (s : State) : (takeEvent s).outputs = s.outputs := rfl

@[simp] theorem takeEvent_schedule (s : State) : (takeEvent s).schedule = s.schedule.tail := rfl

/-! The fields after `takeFrame`. -/

@[simp] theorem takeFrame_cfg (s : State) : (takeFrame s).cfg = s.cfg := rfl

@[simp] theorem takeFrame_asm (s : State) : (takeFrame s).asm = { s.asm with framePending := false } := rfl

@[simp] theorem takeFrame_disp (s : State) : (takeFrame s).disp = s.disp := rfl

@[simp] theorem takeFrame_conf (s : State) : (takeFrame s).conf = s.conf := rfl

@[simp] theorem takeFrame_groupWp (s : State) : (takeFrame s).groupWp = s.groupWp := rfl

@[simp] theorem takeFrame_ramp (s : State) : (takeFrame s).ramp = s.ramp := rfl

@[simp] theorem takeFrame_occ (s : State) : (takeFrame s).occ = s.occ := rfl

@[simp] theorem takeFrame_fault (s : State) : (takeFrame s).fault = s.fault := rfl

@[simp] theorem takeFrame_refused (s : State) : (takeFrame s).refused = s.refused := rfl

@[simp] theorem takeFrame_schedule (s : State) : (takeFrame s).schedule = s.schedule := rfl

@[simp] theorem takeFrame_eventNo (s : State) : (takeFrame s).eventNo = s.eventNo := rfl

@[simp] theorem takeFrame_outputs (s : State) : (takeFrame s).outputs = s.outputs := rfl

/-! The fields after `insertGroup`. -/

@[simp] theorem insertGroup_cfg (v : Byte) (s : State) : (insertGroup v s).cfg = s.cfg := rfl

@[simp] theorem insertGroup_asm (v : Byte) (s : State) : (insertGroup v s).asm = s.asm := rfl

@[simp] theorem insertGroup_disp (v : Byte) (s : State) : (insertGroup v s).disp = s.disp := rfl

@[simp] theorem insertGroup_conf (v : Byte) (s : State) :
    (insertGroup v s).conf = { s.conf with groups := s.conf.groups.setIfInBounds s.groupWp.toNat v } := rfl

@[simp] theorem insertGroup_groupWp (v : Byte) (s : State) :
    (insertGroup v s).groupWp = BitVec.ofNat 3 ((s.groupWp.toNat + 1) % 5) := rfl

@[simp] theorem insertGroup_ramp (v : Byte) (s : State) : (insertGroup v s).ramp = s.ramp := rfl

@[simp] theorem insertGroup_occ (v : Byte) (s : State) : (insertGroup v s).occ = s.occ := rfl

@[simp] theorem insertGroup_fault (v : Byte) (s : State) : (insertGroup v s).fault = s.fault := rfl

@[simp] theorem insertGroup_refused (v : Byte) (s : State) : (insertGroup v s).refused = s.refused := rfl

@[simp] theorem insertGroup_schedule (v : Byte) (s : State) : (insertGroup v s).schedule = s.schedule := rfl

@[simp] theorem insertGroup_eventNo (v : Byte) (s : State) : (insertGroup v s).eventNo = s.eventNo := rfl

@[simp] theorem insertGroup_outputs (v : Byte) (s : State) : (insertGroup v s).outputs = s.outputs := rfl

/-! The fields after `discardFrame`. -/

@[simp] theorem discardFrame_cfg (s : State) : (discardFrame s).cfg = s.cfg := rfl

@[simp] theorem discardFrame_asm (s : State) : (discardFrame s).asm = { s.asm with fill := 0#4 } := rfl

@[simp] theorem discardFrame_disp (s : State) : (discardFrame s).disp = { s.disp with dedupe := Config.noId } := rfl

@[simp] theorem discardFrame_conf (s : State) : (discardFrame s).conf = s.conf := rfl

@[simp] theorem discardFrame_groupWp (s : State) : (discardFrame s).groupWp = s.groupWp := rfl

@[simp] theorem discardFrame_ramp (s : State) : (discardFrame s).ramp = s.ramp := rfl

@[simp] theorem discardFrame_occ (s : State) : (discardFrame s).occ = s.occ := rfl

@[simp] theorem discardFrame_fault (s : State) : (discardFrame s).fault = s.fault := rfl

@[simp] theorem discardFrame_refused (s : State) : (discardFrame s).refused = s.refused := rfl

@[simp] theorem discardFrame_schedule (s : State) : (discardFrame s).schedule = s.schedule := rfl

@[simp] theorem discardFrame_eventNo (s : State) : (discardFrame s).eventNo = s.eventNo := rfl

@[simp] theorem discardFrame_outputs (s : State) : (discardFrame s).outputs = s.outputs := rfl

/-! The fields after `handResp`. -/

@[simp] theorem handResp_cfg (s : State) : (handResp s).cfg = s.cfg := rfl

@[simp] theorem handResp_asm (s : State) : (handResp s).asm = s.asm := rfl

@[simp] theorem handResp_disp (s : State) :
    (handResp s).disp = { s.disp with respBuf := none, dispState := .idle } := rfl

@[simp] theorem handResp_conf (s : State) : (handResp s).conf = s.conf := rfl

@[simp] theorem handResp_groupWp (s : State) : (handResp s).groupWp = s.groupWp := rfl

@[simp] theorem handResp_ramp (s : State) : (handResp s).ramp = s.ramp := rfl

@[simp] theorem handResp_occ (s : State) : (handResp s).occ = s.occ := rfl

@[simp] theorem handResp_fault (s : State) : (handResp s).fault = s.fault := rfl

@[simp] theorem handResp_refused (s : State) : (handResp s).refused = s.refused := rfl

@[simp] theorem handResp_schedule (s : State) : (handResp s).schedule = s.schedule := rfl

@[simp] theorem handResp_eventNo (s : State) : (handResp s).eventNo = s.eventNo := rfl

@[simp] theorem handResp_outputs (s : State) : (handResp s).outputs = s.outputs ++ respOutput s.disp.respBuf := rfl

/-! The fields after `identRequest`. -/

@[simp] theorem identRequest_cfg (s : State) : (identRequest s).cfg = s.cfg := rfl

@[simp] theorem identRequest_asm (s : State) : (identRequest s).asm = { s.asm with awaitingIdentity := true } := rfl

@[simp] theorem identRequest_disp (s : State) : (identRequest s).disp = s.disp := rfl

@[simp] theorem identRequest_conf (s : State) : (identRequest s).conf = s.conf := rfl

@[simp] theorem identRequest_groupWp (s : State) : (identRequest s).groupWp = s.groupWp := rfl

@[simp] theorem identRequest_ramp (s : State) : (identRequest s).ramp = s.ramp := rfl

@[simp] theorem identRequest_occ (s : State) : (identRequest s).occ = s.occ := rfl

@[simp] theorem identRequest_fault (s : State) : (identRequest s).fault = s.fault := rfl

@[simp] theorem identRequest_refused (s : State) : (identRequest s).refused = s.refused := rfl

@[simp] theorem identRequest_schedule (s : State) : (identRequest s).schedule = s.schedule := rfl

@[simp] theorem identRequest_eventNo (s : State) : (identRequest s).eventNo = s.eventNo := rfl

@[simp] theorem identRequest_outputs (s : State) : (identRequest s).outputs = s.outputs := rfl

/-! The fields after `rampTick`. -/

@[simp] theorem rampTick_cfg (s : State) : (rampTick s).cfg = s.cfg := rfl

@[simp] theorem rampTick_asm (s : State) : (rampTick s).asm = s.asm := rfl

@[simp] theorem rampTick_disp (s : State) : (rampTick s).disp = s.disp := rfl

@[simp] theorem rampTick_conf (s : State) : (rampTick s).conf = s.conf := rfl

@[simp] theorem rampTick_groupWp (s : State) : (rampTick s).groupWp = s.groupWp := rfl

@[simp] theorem rampTick_ramp (s : State) :
    (rampTick s).ramp = s.ramp.tick s.conf.fadeRate (s.cfg.fadeDelayTicks s.conf.fadeDelay) := rfl

@[simp] theorem rampTick_occ (s : State) : (rampTick s).occ = s.occ := rfl

@[simp] theorem rampTick_fault (s : State) : (rampTick s).fault = s.fault := rfl

@[simp] theorem rampTick_refused (s : State) : (rampTick s).refused = s.refused := rfl

@[simp] theorem rampTick_schedule (s : State) : (rampTick s).schedule = s.schedule := rfl

@[simp] theorem rampTick_eventNo (s : State) : (rampTick s).eventNo = s.eventNo := rfl

@[simp] theorem rampTick_outputs (s : State) : (rampTick s).outputs = s.outputs := rfl

/-! The fields after `samplerTick`. -/

@[simp] theorem samplerTick_cfg (s : State) : (samplerTick s).cfg = s.cfg := rfl

@[simp] theorem samplerTick_asm (s : State) : (samplerTick s).asm = s.asm := rfl

@[simp] theorem samplerTick_disp (s : State) : (samplerTick s).disp = s.disp := rfl

@[simp] theorem samplerTick_conf (s : State) : (samplerTick s).conf = s.conf := rfl

@[simp] theorem samplerTick_groupWp (s : State) : (samplerTick s).groupWp = s.groupWp := rfl

@[simp] theorem samplerTick_ramp (s : State) : (samplerTick s).ramp = s.ramp := rfl

@[simp] theorem samplerTick_occ (s : State) :
    (samplerTick s).occ = s.occ.sampleTick (s.cfg.sampleWindowTicks s.conf.sensingPeriod) := rfl

@[simp] theorem samplerTick_fault (s : State) : (samplerTick s).fault = s.fault := rfl

@[simp] theorem samplerTick_refused (s : State) : (samplerTick s).refused = s.refused := rfl

@[simp] theorem samplerTick_schedule (s : State) : (samplerTick s).schedule = s.schedule := rfl

@[simp] theorem samplerTick_eventNo (s : State) : (samplerTick s).eventNo = s.eventNo := rfl

@[simp] theorem samplerTick_outputs (s : State) : (samplerTick s).outputs = s.outputs := rfl

/-! The fields after `registers`. -/

@[simp] theorem registers_cfg (s : State) : s.registers.cfg = s.cfg := rfl

@[simp] theorem registers_asm (s : State) : s.registers.asm = s.asm := rfl

@[simp] theorem registers_disp (s : State) : s.registers.disp = s.disp := rfl

@[simp] theorem registers_conf (s : State) : s.registers.conf = s.conf := rfl

@[simp] theorem registers_groupWp (s : State) : s.registers.groupWp = s.groupWp := rfl

@[simp] theorem registers_ramp (s : State) : s.registers.ramp = s.ramp := rfl

@[simp] theorem registers_occ (s : State) : s.registers.occ = s.occ := rfl

@[simp] theorem registers_fault (s : State) : s.registers.fault = s.fault := rfl

@[simp] theorem registers_refused (s : State) : s.registers.refused = s.refused := rfl

@[simp] theorem registers_schedule (s : State) : s.registers.schedule = [] := rfl

@[simp] theorem registers_eventNo (s : State) : s.registers.eventNo = 0 := rfl

@[simp] theorem registers_outputs (s : State) : s.registers.outputs = [] := rfl

/-! The dispatcher after an executed command. -/

@[simp] theorem executed_dedupe (c : Cmd) (p : List Byte) (s : State) :
    (executed c p s).disp.dedupe = s.cfg.idOf c := rfl

@[simp] theorem executed_dispState (c : Cmd) (p : List Byte) (s : State) :
    (executed c p s).disp.dispState =
      if s.cfg.responds (s.cfg.idOf c) then .waitResp else s.disp.dispState := rfl

@[simp] theorem executed_respBuf (c : Cmd) (p : List Byte) (s : State) :
    (executed c p s).disp.respBuf =
      if s.cfg.responds (s.cfg.idOf c) then some ⟨s.cfg.idOf c, respAddrSel s.cfg (s.cfg.idOf c), p⟩
      else s.disp.respBuf := rfl

@[simp] theorem executedOpen_disp (c : Cmd) (s : State) :
    (executedOpen c s).disp = (executed c (openPayload c s) s).disp := rfl

/-- An OPEN payload has at least one byte (R180). -/
theorem openPayload_ne_nil (c : Cmd) (s : State) : openPayload c s ≠ [] := by
  simp [openPayload]

end Sys2Proof.Machine
end

