-- ==== Sys2Proof/Laws/Ops.lean ====
section
/-! SUPPORT. What each shared operation can do, said once: the provers cite these instead of unfolding. -/

namespace Sys2Proof.Machine

/-- The two outcomes of a numeric command (R97, R163). -/
theorem withNumber_cases (hi lo : Byte) (s : State) (act : Percent → State) :
    (∃ v, decode2 hi lo = some v ∧ withNumber hi lo s act = .next (act v)) ∨
      (decode2 hi lo = none ∧ withNumber hi lo s act = .next { s with fault := some .undefParam }) := by
  unfold withNumber
  cases h : decode2 hi lo with
  | none => exact .inr ⟨rfl, rfl⟩
  | some v => exact .inl ⟨v, rfl, rfl⟩

/-- The two outcomes of a scene command (R99, R163). -/
theorem withScene_cases (hi lo : Byte) (s : State) (act : Fin 5 → Result) :
    (∃ k, sceneSlot hi lo = some k ∧ withScene hi lo s act = act k) ∨
      (sceneSlot hi lo = none ∧ withScene hi lo s act = .next { s with fault := some .undefParam }) := by
  unfold withScene
  cases h : sceneSlot hi lo with
  | none => exact .inr ⟨rfl, rfl⟩
  | some k => exact .inl ⟨k, rfl, rfl⟩

/-- What recalling a scene value can do (R296). -/
theorem recallScene_cases (v : Byte) (s : State) :
    (v = Config.sceneUnset ∧ recallScene v s = some s) ∨
      (v ≠ Config.sceneUnset ∧ ∃ h : v.toNat < 100, recallScene v s = some { s with ramp := s.ramp.setLevel ⟨v.toNat, h⟩ }) ∨
      (100 ≤ v.toNat ∧ recallScene v s = none) := by
  unfold recallScene
  by_cases h1 : v = Config.sceneUnset
  · exact .inl ⟨h1, if_pos h1⟩
  · by_cases h2 : v.toNat < 100
    · exact .inr (.inl ⟨h1, h2, by rw [if_neg h1, dif_pos h2]⟩)
    · exact .inr (.inr ⟨Nat.le_of_not_lt h2, by rw [if_neg h1, dif_neg h2]⟩)

/-- A step answers a next state only under a well-formed configuration and with no mark, and it is then the next event
(R9, R12). -/
theorem step_next {s t : State} (h : step s = .next t) :
    s.cfg.wf = true ∧ s.fault = none ∧ s.refused = none ∧ runNext s = .next t := by
  unfold step guardedNext at h
  split at h
  · rename_i hw
    split at h
    · cases h
    · cases h
    · exact ⟨hw, ‹_›, ‹_›, h⟩
  · cases h

/-- Under a well-formed configuration and with no mark, a step is the next event. -/
theorem step_eq_runNext {s : State} (hw : s.cfg.wf = true) (hf : s.fault = none) (hr : s.refused = none) :
    step s = runNext s := by
  unfold step guardedNext
  rw [if_pos hw, hf, hr]

/-- Taking an event the schedule holds. -/
theorem takeEvent_cons {s : State} {e : Event} {rest : List Event} (h : s.schedule = e :: rest) :
    takeEvent s = { s with schedule := rest } := by
  simp [takeEvent, h]

/-- The next event a step performs, in three cases: the schedule holds one, the open environment delivers one, or it
delivers nothing more. -/
theorem runNext_cases (s : State) :
    (∃ e rest, s.schedule = e :: rest ∧ s.nextEvent = e ∧ runNext s = perform e { s with schedule := rest }) ∨
      (∃ e, s.schedule = [] ∧ Config.environment s.eventNo = some e ∧ s.nextEvent = e ∧
        runNext s = perform e { s with eventNo := s.eventNo + 1 }) ∨
      (s.schedule = [] ∧ Config.environment s.eventNo = none ∧ s.nextEvent = .dispatch ∧
        runNext s = perform .dispatch s) := by
  obtain ⟨cfg, asm, disp, conf, groupWp, ramp, occ, fault, refused, schedule, eventNo, outputs⟩ := s
  cases schedule with
  | cons e rest => exact .inl ⟨e, rest, rfl, rfl, rfl⟩
  | nil =>
    cases he : Config.environment eventNo with
    | some e =>
      exact .inr (.inl ⟨e, rfl, rfl, by simp [State.nextEvent, he], by simp [runNext, takeEvent, State.nextEvent, he]⟩)
    | none =>
      exact .inr (.inr ⟨rfl, rfl, by simp [State.nextEvent, he], by simp [runNext, takeEvent, State.nextEvent, he]⟩)

/-- The four outcomes of an enabled `Dispatch` (R152). -/
theorem dispatchFrame_cases (s : State) :
    (addrOk s s.asm.fhold[7] = false ∧ dispatchFrame s = .next (takeFrame s)) ∨
      (addrOk s s.asm.fhold[7] = true ∧ matchTemplate s.cfg.templates (payload s.asm.fhold) = none ∧
        dispatchFrame s = .next (takeFrame s)) ∨
      (∃ t, addrOk s s.asm.fhold[7] = true ∧ matchTemplate s.cfg.templates (payload s.asm.fhold) = some t ∧
        s.disp.dedupe = s.cfg.idOf t.name ∧ dispatchFrame s = .next (takeFrame s)) ∨
      (∃ t, addrOk s s.asm.fhold[7] = true ∧ matchTemplate s.cfg.templates (payload s.asm.fhold) = some t ∧
        s.disp.dedupe ≠ s.cfg.idOf t.name ∧
        dispatchFrame s = exec (Instr.ofFrame t.name s.asm.fhold) (takeFrame s)) := by
  have hk : addrOk (takeFrame s) s.asm.fhold[7] = addrOk s s.asm.fhold[7] := rfl
  unfold dispatchFrame
  simp only [hk]
  cases ha : addrOk s s.asm.fhold[7] with
  | false => exact .inl ⟨rfl, rfl⟩
  | true =>
    cases hm : matchTemplate s.cfg.templates (payload s.asm.fhold) with
    | none => exact .inr (.inl ⟨rfl, rfl, rfl⟩)
    | some t =>
      by_cases hd : s.disp.dedupe = s.cfg.idOf t.name
      · exact .inr (.inr (.inl ⟨t, rfl, rfl, hd, if_pos hd⟩))
      · exact .inr (.inr (.inr ⟨t, rfl, rfl, hd, if_neg hd⟩))

/-- The assembler part of a tick always answers a next state: the timer counts down, an identity frame is delivered, or
a partial frame is discarded (R126 to R128). -/
theorem assemblerTick_cases (s : State) :
    (s.asm.expiring = false ∧ assemblerTick s = .next { s with asm := s.asm.countDown }) ∨
      (s.asm.expiring = true ∧ s.asm.identMode = true ∧ s.asm.fill = 4#4 ∧
        assemblerTick s =
          .next (emit (.identFrame s.asm.fbuf[0] s.asm.fbuf[1] s.asm.fbuf[2] s.asm.fbuf[3])
            { s with asm := { s.asm.expired with awaitingIdentity := false, fill := 0#4 } })) ∨
      (s.asm.expiring = true ∧ ¬(s.asm.identMode = true ∧ s.asm.fill = 4#4) ∧
        assemblerTick s = .next (discardFrame { s with asm := s.asm.expired })) := by
  unfold assemblerTick
  cases he : s.asm.expiring with
  | false => exact .inl ⟨rfl, rfl⟩
  | true =>
    by_cases hi : s.asm.identMode = true ∧ s.asm.fill = 4#4
    · refine .inr (.inl ⟨rfl, hi.1, hi.2, ?_⟩)
      simp only [Assembler.identity?, if_pos hi, if_true]
      rfl
    · refine .inr (.inr ⟨rfl, hi, ?_⟩)
      simp only [Assembler.identity?, if_neg hi, if_true]

/-- A tick always answers a next state, from the one its assembler part answers (R351). -/
theorem tick_next (s : State) :
    ∃ s', assemblerTick s = .next s' ∧ tick s = .next (occupancyTick (rampTick s')) := by
  obtain ⟨-, h⟩ | ⟨-, -, -, h⟩ | ⟨-, -, h⟩ := assemblerTick_cases s <;>
    exact ⟨_, h, by simp only [tick, h]⟩

/-- What an accepted byte does: it completes the frame from fill 7, and else advances the fill index; from fill 0 the
timer starts (R121). -/
theorem Assembler.accept_cases (p : Params) (b : Byte) (a : Assembler) :
    let stored := { a with fbuf := a.fbuf.setIfInBounds a.fill.toNat b }
    (a.fill = 0#4 ∧ a.accept p b = { stored.startTimer p with fill := 1#4 }) ∨
      (a.fill = 7#4 ∧ a.accept p b = stored.complete p) ∨
      (a.fill ≠ 0#4 ∧ a.fill ≠ 7#4 ∧ a.accept p b = { stored with fill := a.fill + 1#4 }) := by
  intro stored
  unfold Assembler.accept
  by_cases h0 : a.fill = 0#4
  · refine .inl ⟨h0, ?_⟩
    simp [h0, stored, Config.frameLen]
  · by_cases h7 : a.fill = 7#4
    · refine .inr (.inl ⟨h7, ?_⟩)
      simp [h7, stored, Config.frameLen]
    · refine .inr (.inr ⟨h0, h7, ?_⟩)
      have : a.fill.toNat + 1 ≠ Config.frameLen := by
        intro h
        apply h7
        apply BitVec.eq_of_toNat_eq
        simp only [Config.frameLen] at h
        simp
        omega
      simp [h0, this, stored]

end Sys2Proof.Machine
end

