-- ==== Sys2Proof/Laws/PerInstr.lean ====
section
/-! SUPPORT. Statements for every instruction, one lemma per constructor. -/

namespace Sys2Proof.Laws.EncodedLength

/-- The wire length of an instruction: four bytes for an identity frame, eight for a command (R107). -/
def wireLength (i : Instr) : Nat :=
  if i.cmd.isNone then 4 else 8

/-- Under a table that passes the check, the encoder gives every instruction as many bytes as its format has (R107). -/
def Statement (i : Instr) : Prop :=
  ∀ ts, tableOk ts = true → (encode ts i).length = wireLength i

/-- A table that passes the check holds every command name (R102 check 5). -/
theorem find_name {ts : List Template} (h : tableOk ts = true) (c : Cmd) :
    ∃ t, ts.find? (fun t => t.name == c) = some t := by
  simp only [tableOk, Bool.and_eq_true, List.all_eq_true] at h
  have hc : c ∈ Cmd.all := by cases c <;> decide
  have h1 := h.1.2 c hc
  rw [← Option.isSome_iff_exists, List.find?_isSome]
  have : 0 < ts.countP (·.name == c) := by
    rw [beq_iff_eq] at h1
    omega
  exact List.countP_pos_iff.mp this

theorem lengthOk_of_cmd (i : Instr) (c : Cmd) (hc : i.cmd = some c) : Statement i := by
  intro ts h
  obtain ⟨t, ht⟩ := find_name h c
  simp [encode, hc, ht, wireLength]

theorem setHostAddr (a0 a1 a2 a3 addr : Byte) : Statement (.setHostAddr a0 a1 a2 a3 addr) := lengthOk_of_cmd _ _ rfl

theorem resetHostAddr (addr : Byte) : Statement (.resetHostAddr addr) := lengthOk_of_cmd _ _ rfl

theorem setPollAddr (a0 a1 a2 a3 addr : Byte) : Statement (.setPollAddr a0 a1 a2 a3 addr) := lengthOk_of_cmd _ _ rfl

theorem setSensingFreq (hi lo addr : Byte) : Statement (.setSensingFreq hi lo addr) := lengthOk_of_cmd _ _ rfl

theorem setTimeout (hi lo addr : Byte) : Statement (.setTimeout hi lo addr) := lengthOk_of_cmd _ _ rfl

theorem setPowerOnLevel (hi lo addr : Byte) : Statement (.setPowerOnLevel hi lo addr) := lengthOk_of_cmd _ _ rfl

theorem setLevel (hi lo addr : Byte) : Statement (.setLevel hi lo addr) := lengthOk_of_cmd _ _ rfl

theorem setFadeRate (hi lo addr : Byte) : Statement (.setFadeRate hi lo addr) := lengthOk_of_cmd _ _ rfl

theorem setFadeDelay (hi lo addr : Byte) : Statement (.setFadeDelay hi lo addr) := lengthOk_of_cmd _ _ rfl

theorem setGroup (hi lo addr : Byte) : Statement (.setGroup hi lo addr) := lengthOk_of_cmd _ _ rfl

theorem getGroup (addr : Byte) : Statement (.getGroup addr) := lengthOk_of_cmd _ _ rfl

theorem clearGroup (addr : Byte) : Statement (.clearGroup addr) := lengthOk_of_cmd _ _ rfl

theorem setScene (hi lo addr : Byte) : Statement (.setScene hi lo addr) := lengthOk_of_cmd _ _ rfl

theorem getScene (hi lo addr : Byte) : Statement (.getScene hi lo addr) := lengthOk_of_cmd _ _ rfl

theorem gotoScene (hi lo addr : Byte) : Statement (.gotoScene hi lo addr) := lengthOk_of_cmd _ _ rfl

theorem clearScene (hi lo addr : Byte) : Statement (.clearScene hi lo addr) := lengthOk_of_cmd _ _ rfl

theorem storeLisGroup (hi lo addr : Byte) : Statement (.storeLisGroup hi lo addr) := lengthOk_of_cmd _ _ rfl

theorem getLisGroup (addr : Byte) : Statement (.getLisGroup addr) := lengthOk_of_cmd _ _ rfl

theorem clearLisGroup (addr : Byte) : Statement (.clearLisGroup addr) := lengthOk_of_cmd _ _ rfl

theorem commission (addr : Byte) : Statement (.commission addr) := lengthOk_of_cmd _ _ rfl

theorem decommission (addr : Byte) : Statement (.decommission addr) := lengthOk_of_cmd _ _ rfl

theorem identify (addr : Byte) : Statement (.identify addr) := lengthOk_of_cmd _ _ rfl

theorem writeFlash (addr : Byte) : Statement (.writeFlash addr) := lengthOk_of_cmd _ _ rfl

theorem getSensorData (addr : Byte) : Statement (.getSensorData addr) := lengthOk_of_cmd _ _ rfl

theorem clearCount (addr : Byte) : Statement (.clearCount addr) := lengthOk_of_cmd _ _ rfl

theorem relayOn (addr : Byte) : Statement (.relayOn addr) := lengthOk_of_cmd _ _ rfl

theorem relayOff (addr : Byte) : Statement (.relayOff addr) := lengthOk_of_cmd _ _ rfl

theorem disableSensor (addr : Byte) : Statement (.disableSensor addr) := lengthOk_of_cmd _ _ rfl

theorem enableSensor (addr : Byte) : Statement (.enableSensor addr) := lengthOk_of_cmd _ _ rfl

theorem factoryReset (addr : Byte) : Statement (.factoryReset addr) := lengthOk_of_cmd _ _ rfl

theorem getSettings (addr : Byte) : Statement (.getSettings addr) := lengthOk_of_cmd _ _ rfl

theorem enableRequestMode (addr : Byte) : Statement (.enableRequestMode addr) := lengthOk_of_cmd _ _ rfl

theorem getTimeout (addr : Byte) : Statement (.getTimeout addr) := lengthOk_of_cmd _ _ rfl

theorem getPercentage (addr : Byte) : Statement (.getPercentage addr) := lengthOk_of_cmd _ _ rfl

theorem getGroupCount (addr : Byte) : Statement (.getGroupCount addr) := lengthOk_of_cmd _ _ rfl

theorem getHealth (addr : Byte) : Statement (.getHealth addr) := lengthOk_of_cmd _ _ rfl

theorem getOwnAddress (addr : Byte) : Statement (.getOwnAddress addr) := lengthOk_of_cmd _ _ rfl

theorem cmd38 (addr : Byte) : Statement (.cmd38 addr) := lengthOk_of_cmd _ _ rfl

theorem identityFrame (i0 i1 i2 i3 : Byte) : Statement (.identityFrame i0 i1 i2 i3) := fun _ _ => rfl

end Sys2Proof.Laws.EncodedLength
end

