-- ==== Sys2Proof/Laws/Runs.lean ====
section
/-! SUPPORT. The induction over an infinite run, once. -/

namespace Sys2Proof.Machine

/-- What holds of the first state of a run, does not depend on the events chosen, and is kept by every step, holds of
every state of the run. -/
theorem IsRun.always {es : Nat → Event} {run : Nat → State} (h : IsRun es run) {P : State → Prop} (h0 : P (run 0))
    (hsched : ∀ s l, P s → P { s with schedule := l }) (hstep : ∀ s t, P s → step s = .next t → P t) :
    ∀ n, P (run n)
  | 0 => h0
  | n + 1 => hstep _ _ (hsched _ _ (h.always h0 hsched hstep n)) (h.step_each n)

end Sys2Proof.Machine
end

