-- ==== Sys2Proof/Tests/Slice0.lean ====
section
/-! SUPPORT. Tests: the words, operands, single steps and loads of 95_test_vectors.md, each expected result taken from
that file or from the rule named, and the witnesses of the obligations' hypotheses. -/

namespace Sys2Proof.Tests

open Sys2Proof.Machine

/-- Rows 0 to 18 of the example table TX (95_test_vectors.md 1.1). -/
def txLow : List Template :=
  [⟨0, .setHostAddr, .hex4, 3, [0x41#8, 0x44#8, 0x48#8]⟩,
   ⟨1, .resetHostAddr, .lit, 7, [0x41#8, 0x44#8, 0x52#8, 0x53#8, 0x54#8, 0x48#8, 0x41#8]⟩,
   ⟨2, .setPollAddr, .hex4, 3, [0x41#8, 0x44#8, 0x51#8]⟩,
   ⟨3, .setSensingFreq, .num2, 5, [0x41#8, 0x44#8, 0x53#8, 0x53#8, 0x46#8]⟩,
   ⟨4, .setTimeout, .num2, 5, [0x41#8, 0x44#8, 0x53#8, 0x54#8, 0x4F#8]⟩,
   ⟨5, .setPowerOnLevel, .num2, 5, [0x41#8, 0x44#8, 0x53#8, 0x50#8, 0x4F#8]⟩,
   ⟨6, .setLevel, .num2, 5, [0x41#8, 0x44#8, 0x53#8, 0x50#8, 0x4C#8]⟩,
   ⟨7, .setFadeRate, .num2, 5, [0x41#8, 0x44#8, 0x53#8, 0x46#8, 0x52#8]⟩,
   ⟨8, .setFadeDelay, .num2, 5, [0x41#8, 0x44#8, 0x53#8, 0x46#8, 0x44#8]⟩,
   ⟨9, .setGroup, .num2, 5, [0x41#8, 0x44#8, 0x53#8, 0x47#8, 0x52#8]⟩,
   ⟨10, .getGroup, .lit, 7, [0x41#8, 0x44#8, 0x47#8, 0x47#8, 0x52#8, 0x50#8, 0x53#8]⟩,
   ⟨11, .clearGroup, .lit, 7, [0x41#8, 0x44#8, 0x43#8, 0x47#8, 0x52#8, 0x50#8, 0x53#8]⟩,
   ⟨12, .setScene, .num2, 5, [0x41#8, 0x44#8, 0x53#8, 0x53#8, 0x43#8]⟩,
   ⟨13, .getScene, .num2, 5, [0x41#8, 0x44#8, 0x47#8, 0x53#8, 0x43#8]⟩,
   ⟨14, .gotoScene, .num2, 5, [0x41#8, 0x44#8, 0x54#8, 0x53#8, 0x43#8]⟩,
   ⟨15, .clearScene, .num2, 5, [0x41#8, 0x44#8, 0x43#8, 0x53#8, 0x43#8]⟩,
   ⟨16, .storeLisGroup, .num2, 5, [0x41#8, 0x44#8, 0x53#8, 0x4C#8, 0x47#8]⟩,
   ⟨17, .getLisGroup, .lit, 7, [0x41#8, 0x44#8, 0x47#8, 0x4C#8, 0x49#8, 0x53#8, 0x47#8]⟩,
   ⟨18, .clearLisGroup, .lit, 7, [0x41#8, 0x44#8, 0x43#8, 0x4C#8, 0x49#8, 0x53#8, 0x47#8]⟩]

/-- Rows 19 to 37 of TX. -/
def txHigh : List Template :=
  [⟨19, .commission, .lit, 7, [0x41#8, 0x44#8, 0x43#8, 0x4F#8, 0x4D#8, 0x4D#8, 0x53#8]⟩,
   ⟨20, .decommission, .lit, 7, [0x41#8, 0x44#8, 0x44#8, 0x43#8, 0x4F#8, 0x4D#8, 0x4D#8]⟩,
   ⟨21, .identify, .lit, 7, [0x41#8, 0x44#8, 0x49#8, 0x44#8, 0x45#8, 0x4E#8, 0x54#8]⟩,
   ⟨22, .writeFlash, .lit, 7, [0x41#8, 0x44#8, 0x57#8, 0x52#8, 0x46#8, 0x4C#8, 0x53#8]⟩,
   ⟨23, .getSensorData, .lit, 7, [0x41#8, 0x44#8, 0x47#8, 0x53#8, 0x44#8, 0x41#8, 0x54#8]⟩,
   ⟨24, .clearCount, .lit, 7, [0x41#8, 0x44#8, 0x43#8, 0x4C#8, 0x43#8, 0x4E#8, 0x54#8]⟩,
   ⟨25, .relayOn, .lit, 7, [0x41#8, 0x44#8, 0x52#8, 0x4C#8, 0x59#8, 0x4F#8, 0x4E#8]⟩,
   ⟨26, .relayOff, .lit, 7, [0x41#8, 0x44#8, 0x52#8, 0x4C#8, 0x59#8, 0x4F#8, 0x46#8]⟩,
   ⟨27, .disableSensor, .lit, 7, [0x41#8, 0x44#8, 0x44#8, 0x53#8, 0x45#8, 0x4E#8, 0x53#8]⟩,
   ⟨28, .enableSensor, .lit, 7, [0x41#8, 0x44#8, 0x45#8, 0x53#8, 0x45#8, 0x4E#8, 0x53#8]⟩,
   ⟨29, .factoryReset, .lit, 7, [0x41#8, 0x44#8, 0x46#8, 0x52#8, 0x53#8, 0x45#8, 0x54#8]⟩,
   ⟨30, .getSettings, .lit, 7, [0x41#8, 0x44#8, 0x47#8, 0x53#8, 0x45#8, 0x54#8, 0x54#8]⟩,
   ⟨31, .enableRequestMode, .lit, 7, [0x41#8, 0x44#8, 0x45#8, 0x52#8, 0x51#8, 0x4D#8, 0x44#8]⟩,
   ⟨32, .getTimeout, .lit, 7, [0x41#8, 0x44#8, 0x47#8, 0x54#8, 0x4F#8, 0x55#8, 0x54#8]⟩,
   ⟨33, .getPercentage, .lit, 7, [0x41#8, 0x44#8, 0x47#8, 0x50#8, 0x43#8, 0x4E#8, 0x54#8]⟩,
   ⟨34, .getGroupCount, .lit, 7, [0x41#8, 0x44#8, 0x47#8, 0x47#8, 0x43#8, 0x4E#8, 0x54#8]⟩,
   ⟨35, .getHealth, .lit, 7, [0x41#8, 0x44#8, 0x47#8, 0x48#8, 0x4C#8, 0x54#8, 0x48#8]⟩,
   ⟨36, .getOwnAddress, .lit, 7, [0x41#8, 0x44#8, 0x47#8, 0x4F#8, 0x57#8, 0x4E#8, 0x41#8]⟩,
   ⟨37, .cmd38, .lit, 7, [0x41#8, 0x44#8, 0x5A#8, 0x5A#8, 0x5A#8, 0x5A#8, 0x5A#8]⟩]

/-- TX: test data only, not the device's grammar (D48). -/
def tx : List Template := txLow ++ txHigh

/-- The four characters "0000". -/
def chars0 : Addr4 := #v[0x30#8, 0x30#8, 0x30#8, 0x30#8]

/-- The example parameters PX (95_test_vectors.md 1.2). -/
def px : Params where
  templates := tx
  idleGapTicks := 4
  identGapTicks := 3
  idleExpiry := .disarm
  ownAddr := none
  silentIds := []
  pollIds := []
  minuteTicks := 3
  sampleWindow := ⟨[], 2⟩
  fadeDelayTable := ⟨[], 0⟩
  defaults :=
    { sensingPeriod := 15#8, maxTimeout := 10#8, hostAddr := chars0, pollAddr := chars0, commissioned := false,
      fadeRate := 10#8, fadeDelay := 0#16, powerOnLevel := 0#8, groups := noGroups,
      scenes := #v[99#8, 99#8, 99#8, 99#8, 99#8], lisMode := false, lisGroup := 0xFF#8 }

/-- The example image IMG0. -/
def img0 : Image :=
  #v[0x02#8, 0x02#8, 0x31#8, 0x32#8, 0x33#8, 0x34#8, 0x35#8, 0x36#8, 0x37#8, 0x38#8, 0x00#8, 0x63#8, 0x00#8, 0x00#8,
     0x00#8, 0xFF#8, 0xFF#8, 0xFF#8, 0xFF#8, 0xFF#8, 0x63#8, 0x63#8, 0x63#8, 0x63#8, 0x63#8, 0x00#8, 0xFF#8]

/-- S0: the state after reset with IMG0 (`test_s0_is_reset`). -/
def s0 : State := { State.resetWith px img0 with refused := none }

/-! Decoding: one word per constructor, byte 0 of the frame in bits 7..0. Each command word is its row of TX
(95_test_vectors.md 1.1), its parameter bytes and the address 254. -/

theorem test_decode_setHostAddr :
    decodeWordWith tx 64 0xFE42324131484441 = some (.setHostAddr 0x31#8 0x41#8 0x32#8 0x42#8 0xFE#8) := by decide

theorem test_decode_resetHostAddr : decodeWordWith tx 64 0xFE41485453524441 = some (.resetHostAddr 0xFE#8) := by decide

theorem test_decode_setPollAddr :
    decodeWordWith tx 64 0xFE42324131514441 = some (.setPollAddr 0x31#8 0x41#8 0x32#8 0x42#8 0xFE#8) := by decide

theorem test_decode_setSensingFreq :
    decodeWordWith tx 64 0xFE30354653534441 = some (.setSensingFreq 0x35#8 0x30#8 0xFE#8) := by decide

theorem test_decode_setTimeout :
    decodeWordWith tx 64 0xFE30354F54534441 = some (.setTimeout 0x35#8 0x30#8 0xFE#8) := by decide

theorem test_decode_setPowerOnLevel :
    decodeWordWith tx 64 0xFE30354F50534441 = some (.setPowerOnLevel 0x35#8 0x30#8 0xFE#8) := by decide

theorem test_decode_setLevel :
    decodeWordWith tx 64 0xFE30354C50534441 = some (.setLevel 0x35#8 0x30#8 0xFE#8) := by decide

theorem test_decode_setFadeRate :
    decodeWordWith tx 64 0xFE30355246534441 = some (.setFadeRate 0x35#8 0x30#8 0xFE#8) := by decide

theorem test_decode_setFadeDelay :
    decodeWordWith tx 64 0xFE30354446534441 = some (.setFadeDelay 0x35#8 0x30#8 0xFE#8) := by decide

theorem test_decode_setGroup :
    decodeWordWith tx 64 0xFE30355247534441 = some (.setGroup 0x35#8 0x30#8 0xFE#8) := by decide

theorem test_decode_getGroup : decodeWordWith tx 64 0xFE53505247474441 = some (.getGroup 0xFE#8) := by decide

theorem test_decode_clearGroup : decodeWordWith tx 64 0xFE53505247434441 = some (.clearGroup 0xFE#8) := by decide

theorem test_decode_setScene :
    decodeWordWith tx 64 0xFE30354353534441 = some (.setScene 0x35#8 0x30#8 0xFE#8) := by decide

theorem test_decode_getScene :
    decodeWordWith tx 64 0xFE30354353474441 = some (.getScene 0x35#8 0x30#8 0xFE#8) := by decide

theorem test_decode_gotoScene :
    decodeWordWith tx 64 0xFE30354353544441 = some (.gotoScene 0x35#8 0x30#8 0xFE#8) := by decide

theorem test_decode_clearScene :
    decodeWordWith tx 64 0xFE30354353434441 = some (.clearScene 0x35#8 0x30#8 0xFE#8) := by decide

theorem test_decode_storeLisGroup :
    decodeWordWith tx 64 0xFE3035474C534441 = some (.storeLisGroup 0x35#8 0x30#8 0xFE#8) := by decide

theorem test_decode_getLisGroup : decodeWordWith tx 64 0xFE4753494C474441 = some (.getLisGroup 0xFE#8) := by decide

theorem test_decode_clearLisGroup : decodeWordWith tx 64 0xFE4753494C434441 = some (.clearLisGroup 0xFE#8) := by decide

theorem test_decode_commission : decodeWordWith tx 64 0xFE534D4D4F434441 = some (.commission 0xFE#8) := by decide

theorem test_decode_decommission : decodeWordWith tx 64 0xFE4D4D4F43444441 = some (.decommission 0xFE#8) := by decide

theorem test_decode_identify : decodeWordWith tx 64 0xFE544E4544494441 = some (.identify 0xFE#8) := by decide

theorem test_decode_writeFlash : decodeWordWith tx 64 0xFE534C4652574441 = some (.writeFlash 0xFE#8) := by decide

theorem test_decode_getSensorData : decodeWordWith tx 64 0xFE54414453474441 = some (.getSensorData 0xFE#8) := by decide

theorem test_decode_clearCount : decodeWordWith tx 64 0xFE544E434C434441 = some (.clearCount 0xFE#8) := by decide

theorem test_decode_relayOn : decodeWordWith tx 64 0xFE4E4F594C524441 = some (.relayOn 0xFE#8) := by decide

theorem test_decode_relayOff : decodeWordWith tx 64 0xFE464F594C524441 = some (.relayOff 0xFE#8) := by decide

theorem test_decode_disableSensor : decodeWordWith tx 64 0xFE534E4553444441 = some (.disableSensor 0xFE#8) := by decide

theorem test_decode_enableSensor : decodeWordWith tx 64 0xFE534E4553454441 = some (.enableSensor 0xFE#8) := by decide

theorem test_decode_factoryReset : decodeWordWith tx 64 0xFE54455352464441 = some (.factoryReset 0xFE#8) := by decide

theorem test_decode_getSettings : decodeWordWith tx 64 0xFE54544553474441 = some (.getSettings 0xFE#8) := by decide

theorem test_decode_enableRequestMode :
    decodeWordWith tx 64 0xFE444D5152454441 = some (.enableRequestMode 0xFE#8) := by decide

theorem test_decode_getTimeout : decodeWordWith tx 64 0xFE54554F54474441 = some (.getTimeout 0xFE#8) := by decide

theorem test_decode_getPercentage : decodeWordWith tx 64 0xFE544E4350474441 = some (.getPercentage 0xFE#8) := by decide

theorem test_decode_getGroupCount : decodeWordWith tx 64 0xFE544E4347474441 = some (.getGroupCount 0xFE#8) := by decide

theorem test_decode_getHealth : decodeWordWith tx 64 0xFE48544C48474441 = some (.getHealth 0xFE#8) := by decide

theorem test_decode_getOwnAddress : decodeWordWith tx 64 0xFE414E574F474441 = some (.getOwnAddress 0xFE#8) := by decide

theorem test_decode_cmd38 : decodeWordWith tx 64 0xFE5A5A5A5A5A4441 = some (.cmd38 0xFE#8) := by decide

/-- I3: the bytes 31 32 41 42. -/
theorem test_decode_identityFrame :
    decodeWordWith tx 32 0x42413231 = some (.identityFrame 0x31#8 0x32#8 0x41#8 0x42#8) := by decide

/-- D5: "ADGSN01" matches no row of TX. -/
theorem test_decode_unknown : decodeWordWith tx 64 0xFE31304E53474441 = none := by decide

/-- D16: a Hex4 row "ADS" before SET_LEVEL wins. -/
theorem test_decode_priority : decodeFrame (⟨0, .setPollAddr, .hex4, 3, [0x41#8, 0x44#8, 0x53#8]⟩ :: tx)
    #v[0x41#8, 0x44#8, 0x53#8, 0x50#8, 0x4C#8, 0x35#8, 0x30#8, 0xFE#8] =
    .ok (.setPollAddr 0x50#8 0x4C#8 0x35#8 0x30#8 0xFE#8) := by rfl

/-- R108: "ADSPL50" + addr=254. -/
theorem test_encode_setLevel : encode tx (.setLevel 0x35#8 0x30#8 0xFE#8) =
    [0x41#8, 0x44#8, 0x53#8, 0x50#8, 0x4C#8, 0x35#8, 0x30#8, 0xFE#8] := by decide

/-! Operands: 95_test_vectors.md D11 to D13. -/

theorem test_decode2_values :
    decode2 0x35#8 0x30#8 = some 50 ∧ decode2 0x30#8 0x30#8 = some 0 ∧ decode2 0x39#8 0x39#8 = some 99 ∧
    decode2 0x30#8 0x39#8 = some 9 := by decide

theorem test_decode2_undef :
    decode2 0x35#8 0x58#8 = none ∧ decode2 0x3A#8 0x30#8 = none ∧ decode2 0x2F#8 0x30#8 = none := by decide

theorem test_sceneSlot_range :
    sceneSlot 0x30#8 0x31#8 = some 0 ∧ sceneSlot 0x30#8 0x35#8 = some 4 ∧ sceneSlot 0x30#8 0x30#8 = none ∧
    sceneSlot 0x30#8 0x36#8 = none := by decide

/-! Well-formedness: an ill-formed term for each check (R9, R92, R102, R376). -/

theorem test_wf_setLevel : (Instr.setLevel 0x35#8 0x30#8 0xFE#8).wf = true := by decide

theorem test_wf_refuses_00 : (Instr.setLevel 0x00#8 0x30#8 0xFE#8).wf = false := by decide

theorem test_wf_refuses_0A : (Instr.setLevel 0x0A#8 0x30#8 0xFE#8).wf = false := by decide

theorem test_wf_refuses_0D : (Instr.setLevel 0x0D#8 0x30#8 0xFE#8).wf = false := by decide

theorem test_wf_refuses_FF : (Instr.setLevel 0xFF#8 0x30#8 0xFE#8).wf = false := by decide

theorem test_wf_refuses_address_FF : (Instr.commission 0xFF#8).wf = false := by decide

theorem test_params_wf : px.wf = true := by decide +kernel

theorem test_s0_is_reset : s0 = State.resetWith px img0 := by
  simp [s0, State.resetWith, test_params_wf]

/-- R344: BAD_CONFIG marks the state after reset. -/
theorem test_bad_config_marks : (State.resetWith { px with minuteTicks := 0 } img0).refused = some .badConfig := by
  decide +kernel

theorem test_params_refuse_idle_gap : Params.wf { px with idleGapTicks := 0 } = false := by decide +kernel

theorem test_params_refuse_ident_gap : Params.wf { px with identGapTicks := 0 } = false := by decide +kernel

theorem test_params_refuse_minute : Params.wf { px with minuteTicks := 0 } = false := by decide +kernel

theorem test_params_refuse_window : Params.wf { px with sampleWindow := ⟨[(255, 0)], 2⟩ } = false := by decide +kernel

theorem test_params_refuse_short_table : Params.wf { px with templates := tx.take 37 } = false := by decide +kernel

theorem test_params_refuse_wrong_ids : Params.wf { px with templates := txHigh ++ txLow } = false := by decide +kernel

theorem test_params_refuse_default_group :
    Params.wf { px with defaults.groups := #v[7#8, 0xFF#8, 0xFF#8, 0xFF#8, 0xFF#8] } = false := by decide +kernel

theorem test_params_refuse_default_scene :
    Params.wf { px with defaults.scenes := #v[99#8, 99#8, 99#8, 99#8, 0#8] } = false := by decide +kernel

theorem test_params_refuse_default_lis : Params.wf { px with defaults.lisGroup := 0#8 } = false := by decide +kernel

theorem test_template_refuses_length :
    Template.ok ⟨0, .commission, .lit, 7, [0x41#8, 0x44#8, 0x42#8, 0x42#8]⟩ = false := by decide

theorem test_template_refuses_first_letter :
    Template.ok ⟨0, .commission, .lit, 4, [0x42#8, 0x44#8, 0x42#8, 0x42#8]⟩ = false := by decide

theorem test_template_refuses_second_letter :
    Template.ok ⟨0, .commission, .lit, 4, [0x41#8, 0x45#8, 0x42#8, 0x42#8]⟩ = false := by decide

theorem test_template_refuses_kind :
    Template.ok ⟨0, .commission, .num2, 4, [0x41#8, 0x44#8, 0x42#8, 0x42#8]⟩ = false := by decide

theorem test_template_refuses_filtered_byte :
    Template.ok ⟨0, .commission, .lit, 4, [0x41#8, 0x44#8, 0x0D#8, 0x42#8]⟩ = false := by decide

theorem test_table_refuses_double_name :
    tableOk (tx.set 0 ⟨0, .commission, .lit, 4, [0x41#8, 0x44#8, 0x42#8, 0x42#8]⟩) = false := by decide +kernel

theorem test_table_refuses_other_setLevel :
    tableOk (tx.set 6 ⟨6, .setLevel, .num2, 5, [0x41#8, 0x44#8, 0x53#8, 0x50#8, 0x4D#8]⟩) = false := by decide +kernel

theorem test_tx_shape : prefixFree tx = true ∧ usualKinds tx = true := by decide +kernel

/-! Meanings. `look f r` is `f` of the next state `r` answers. -/

/-- A field of the next state a meaning answers. -/
def look {α : Type} (f : State → α) : Result → Option α
  | .next t => some (f t)
  | _ => none

/-- The command and the address field of the held response. -/
def respHead (s : State) : Option (Byte × AddrSel) :=
  s.disp.respBuf.map fun r => (r.cmd, r.addrSel)

/-- S0 at rest at a given duty with the load on. -/
def atRest (d : Half) : State :=
  { s0 with ramp.currentDuty := d, ramp.targetDuty := d, ramp.loadOn := true }

/-- S0 with the sensor armed. -/
def armed : State :=
  { s0 with occ.sensorEnabled := true }

/-- H1 -/
theorem test_setHostAddr :
    look (fun t => (t.conf.hostAddr, t.disp.dedupe, respHead t))
      (exec (.setHostAddr 0x31#8 0x41#8 0x32#8 0x42#8 0xFE#8) s0) =
    some (#v[0x31#8, 0x41#8, 0x32#8, 0x42#8], 0#8, some (0#8, .host)) := by rfl

/-- H2 -/
theorem test_setHostAddr_locked :
    look (fun t => (t.conf.hostAddr, t.disp))
      (exec (.setHostAddr 0x31#8 0x41#8 0x32#8 0x42#8 0xFE#8) { s0 with conf.commissioned := true }) =
    some (#v[0x31#8, 0x32#8, 0x33#8, 0x34#8], ⟨0#8, .idle, none⟩) := by rfl

/-- H3 -/
theorem test_resetHostAddr :
    look (fun t => (t.conf.hostAddr, t.conf.commissioned, respHead t))
      (exec (.resetHostAddr 0xFE#8) { s0 with conf.commissioned := true }) =
    some (chars0, true, some (1#8, .host)) := by rfl

/-- H4 -/
theorem test_setPollAddr :
    look (fun t => (t.conf.pollAddr, t.conf.hostAddr))
      (exec (.setPollAddr 0x30#8 0x30#8 0x45#8 0x46#8 0xFE#8) { s0 with conf.commissioned := true }) =
    some (#v[0x30#8, 0x30#8, 0x45#8, 0x46#8], #v[0x31#8, 0x32#8, 0x33#8, 0x34#8]) := by rfl

/-- H5 -/
theorem test_commission :
    look (fun t => (t.conf.commissioned, t.disp.dedupe))
      (exec (.commission 0xFE#8) s0) =
    some (true, 19#8) := by rfl

/-- H6 -/
theorem test_decommission :
    look (fun t => (t.conf.commissioned, t.disp.dedupe))
      (exec (.decommission 0xFE#8) { s0 with conf.commissioned := true }) =
    some (false, 20#8) := by rfl

/-- H7 -/
theorem test_getOwnAddress :
    look (fun t => (t.conf == s0.conf, t.asm.awaitingIdentity, respHead t))
      (exec (.getOwnAddress 0xFE#8) s0) =
    some (true, false, some (36#8, .host)) := by rfl

/-- W1, M4 -/
theorem test_setLevel :
    look (fun t => (t.ramp, t.disp.dedupe))
      (exec (.setLevel 0x35#8 0x30#8 0xFE#8) s0) =
    some (⟨3300#16, 2230#16, 0, 50#8, true⟩, 6#8) := by rfl

/-- D14 -/
theorem test_setLevel_undef :
    look (fun t => t)
      (exec (.setLevel 0x35#8 0x58#8 0xFE#8) s0) =
    some { s0 with fault := some .undefParam } := by rfl

/-- M6: a level that is already reached writes the load at once. -/
theorem test_set_level_at_rest : ((atRest 3300#16).ramp.setLevel 0).loadOn = false := by rfl

/-- M13 -/
theorem test_setFadeRate :
    look (fun t => (t.conf.fadeRate, respHead t))
      (exec (.setFadeRate 0x32#8 0x35#8 0xFE#8) s0) =
    some (25#8, some (7#8, .host)) := by rfl

/-- M14 -/
theorem test_setFadeDelay :
    look (fun t => t.conf.fadeDelay)
      (exec (.setFadeDelay 0x30#8 0x35#8 0xFE#8) s0) =
    some 5#16 := by rfl

/-- M15 -/
theorem test_setPowerOnLevel :
    look (fun t => (t.conf.powerOnLevel, t.ramp == s0.ramp))
      (exec (.setPowerOnLevel 0x38#8 0x30#8 0xFE#8) s0) =
    some (80#8, true) := by rfl

/-- M16 -/
theorem test_getPercentage :
    look (fun t => t.disp)
      (exec (.getPercentage 0xFE#8) s0) =
    some ⟨33#8, .waitResp, some ⟨33#8, .host, [0#8]⟩⟩ := by rfl

/-- O8 -/
theorem test_enableSensor :
    look (fun t => (t.occ.sensorEnabled, t.occ.timeoutTicks, t.ramp.loadOn))
      (exec (.enableSensor 0xFE#8) { armed with occ.timeoutTicks := 7#8 }) =
    some (true, 0#8, false) := by rfl

/-- O9 -/
theorem test_disableSensor :
    look (fun t => (t.occ.sensorEnabled, t.ramp.loadOn))
      (exec (.disableSensor 0xFE#8) { armed with ramp.loadOn := true }) =
    some (false, true) := by rfl

/-- O10 -/
theorem test_relayOn :
    look (fun t => (t.occ.sensorEnabled, t.occ.manuallyOff, t.ramp.loadOn, t.ramp.targetDuty))
      (exec (.relayOn 0xFE#8) { armed with occ.manuallyOff := true }) =
    some (false, false, true, 3300#16) := by rfl

/-- O11 -/
theorem test_relayOff :
    look (fun t => (t.occ.sensorEnabled, t.occ.manuallyOff, t.ramp.loadOn))
      (exec (.relayOff 0xFE#8) { armed with ramp.loadOn := true }) =
    some (false, true, false) := by rfl

/-- O20 -/
theorem test_setSensingFreq :
    look (fun t => t.conf.sensingPeriod)
      (exec (.setSensingFreq 0x31#8 0x35#8 0xFE#8) s0) =
    some 15#8 := by rfl

/-- O12 -/
theorem test_setTimeout :
    look (fun t => (t.conf.maxTimeout, t.occ.timeoutTicks))
      (exec (.setTimeout 0x30#8 0x33#8 0xFE#8) { armed with occ.timeoutTicks := 5#8 }) =
    some (3#8, 5#8) := by rfl

/-- O15 -/
theorem test_enableRequestMode :
    look (fun t => (t.occ.requestMode, t.occ.motionFlag, t.occ.sampleCnt, t.occ.presentCount))
      (exec (.enableRequestMode 0xFE#8) { s0 with occ.motionFlag := true, occ.sampleCnt := 1, occ.presentCount := 9#8 }) =
    some (true, false, 0, 9#8) := by rfl

/-- O17 -/
theorem test_getSensorData :
    look (fun t => (t.disp.respBuf, t.occ.presentCount))
      (exec (.getSensorData 0xFE#8) { s0 with occ.presentCount := 3#8 }) =
    some (some ⟨23#8, .host, [3#8]⟩, 3#8) := by rfl

/-- O16 -/
theorem test_clearCount :
    look (fun t => (t.occ.presentCount, t.occ.motionFlag))
      (exec (.clearCount 0xFE#8) { s0 with occ.presentCount := 17#8, occ.motionFlag := true }) =
    some (0#8, true) := by rfl

/-- O19 -/
theorem test_getTimeout :
    look (fun t => t.disp.respBuf)
      (exec (.getTimeout 0xFE#8) { s0 with conf.maxTimeout := 10#8 }) =
    some (some ⟨32#8, .host, [10#8]⟩) := by rfl

/-- G1 -/
theorem test_setGroup :
    look (fun t => (t.conf.groups, t.groupWp))
      (exec (.setGroup 0x30#8 0x37#8 0xFE#8) s0) =
    some (#v[7#8, 0xFF#8, 0xFF#8, 0xFF#8, 0xFF#8], 1#3) := by rfl

/-- R290: insertion wraps to slot 0 after 5 -/
theorem test_setGroup_wraps :
    look (fun t => (t.conf.groups, t.groupWp))
      (exec (.setGroup 0x30#8 0x35#8 0xFE#8) { s0 with groupWp := 4#3 }) =
    some (#v[0xFF#8, 0xFF#8, 0xFF#8, 0xFF#8, 5#8], 0#3) := by rfl

/-- G3 -/
theorem test_getGroup :
    look (fun t => t.disp.respBuf)
      (exec (.getGroup 0xFE#8) { s0 with conf.groups := #v[7#8, 0xFF#8, 0xFF#8, 0xFF#8, 0xFF#8] }) =
    some (some ⟨10#8, .host, [7#8, 0xFF#8, 0xFF#8, 0xFF#8, 0xFF#8]⟩) := by rfl

/-- G4 -/
theorem test_clearGroup :
    look (fun t => (t.conf.groups, t.groupWp))
      (exec (.clearGroup 0xFE#8) { s0 with conf.groups := #v[7#8, 8#8, 0xFF#8, 0xFF#8, 0xFF#8], groupWp := 2#3 }) =
    some (noGroups, 0#3) := by rfl

/-- G5 -/
theorem test_getGroupCount :
    look (fun t => t.disp.respBuf)
      (exec (.getGroupCount 0xFE#8) { s0 with conf.groups := #v[7#8, 8#8, 0xFF#8, 0xFF#8, 0xFF#8] }) =
    some (some ⟨34#8, .host, [2#8]⟩) := by rfl

/-- G6 -/
theorem test_setScene :
    look (fun t => t.conf.scenes)
      (exec (.setScene 0x30#8 0x32#8 0xFE#8) { s0 with ramp.activePct := 50#8 }) =
    some #v[99#8, 50#8, 99#8, 99#8, 99#8] := by rfl

/-- G8 -/
theorem test_getScene :
    look (fun t => t.disp.respBuf)
      (exec (.getScene 0x30#8 0x32#8 0xFE#8) { s0 with conf.scenes := #v[99#8, 50#8, 99#8, 99#8, 99#8] }) =
    some (some ⟨13#8, .host, [50#8]⟩) := by rfl

/-- G9 -/
theorem test_gotoScene :
    look (fun t => t.ramp)
      (exec (.gotoScene 0x30#8 0x32#8 0xFE#8) { s0 with conf.scenes := #v[99#8, 50#8, 99#8, 99#8, 99#8] }) =
    some ⟨3300#16, 2230#16, 0, 50#8, true⟩ := by rfl

/-- G12 -/
theorem test_gotoScene_corrupt :
    look (fun t => (t.fault, t.disp == s0.disp))
      (exec (.gotoScene 0x30#8 0x31#8 0xFE#8) { s0 with conf.scenes := #v[128#8, 99#8, 99#8, 99#8, 99#8] }) =
    some (some .undefParam, true) := by rfl

/-- G13 -/
theorem test_clearScene :
    look (fun t => t.conf.scenes)
      (exec (.clearScene 0x30#8 0x32#8 0xFE#8) { s0 with conf.scenes := #v[1#8, 50#8, 2#8, 3#8, 4#8] }) =
    some #v[1#8, 99#8, 2#8, 3#8, 4#8] := by rfl

/-- G14 -/
theorem test_storeLisGroup :
    look (fun t => (t.conf.lisGroup, t.conf.lisMode))
      (exec (.storeLisGroup 0x31#8 0x32#8 0xFE#8) s0) =
    some (12#8, true) := by rfl

/-- G15 -/
theorem test_getLisGroup :
    look (fun t => t.disp.respBuf)
      (exec (.getLisGroup 0xFE#8) { s0 with conf.lisGroup := 12#8 }) =
    some (some ⟨17#8, .host, [12#8]⟩) := by rfl

/-- G16 -/
theorem test_clearLisGroup :
    look (fun t => (t.conf.lisGroup, t.conf.lisMode))
      (exec (.clearLisGroup 0xFE#8) { s0 with conf.lisGroup := 12#8, conf.lisMode := true }) =
    some (0xFF#8, false) := by rfl

/-- Y1 -/
theorem test_writeFlash :
    look (fun t => (t.outputs, t.conf == s0.conf))
      (exec (.writeFlash 0xFE#8) s0) =
    some ([.nvCommit img0], true) := by rfl

/-- Y2 -/
theorem test_factoryReset :
    look (fun t => (t.conf == px.defaults, t.groupWp, t.ramp.currentDuty, t.outputs))
      (exec (.factoryReset 0xFE#8) { atRest 2230#16 with conf.commissioned := true, groupWp := 1#3 }) =
    some (true, 0#3, 2230#16, [.nvCommit #v[0x0F#8, 0x0A#8, 0x30#8, 0x30#8, 0x30#8, 0x30#8, 0x30#8, 0x30#8, 0x30#8, 0x30#8, 0x00#8,
      0x0A#8, 0x00#8, 0x00#8, 0x00#8, 0xFF#8, 0xFF#8, 0xFF#8, 0xFF#8, 0xFF#8, 0x63#8, 0x63#8, 0x63#8, 0x63#8, 0x63#8,
      0x00#8, 0xFF#8]]) := by rfl

/-- Y3 -/
theorem test_getSettings :
    look (fun t => (t.conf == s0.conf, respHead t))
      (exec (.getSettings 0xFE#8) s0) =
    some (true, some (30#8, .host)) := by rfl

/-- Y3 -/
theorem test_getHealth :
    look (fun t => (t.conf == s0.conf, respHead t))
      (exec (.getHealth 0xFE#8) s0) =
    some (true, some (35#8, .host)) := by rfl

/-- Y4 -/
theorem test_identify :
    look (fun t => (t.outputs, t.dutyOut, t.loadOut))
      (exec (.identify 0xFE#8) (atRest 2230#16)) =
    some ([.blink], 2230#16, true) := by rfl

/-- D15 -/
theorem test_cmd38 :
    look (fun t => t)
      (exec (.cmd38 0xFE#8) s0) =
    some { s0 with refused := some .cmd38Unknown } := by rfl

/-- I3 -/
theorem test_identityFrame :
    look (fun t => (t.outputs, t.asm.awaitingIdentity, t.asm.fill, t.disp.dedupe))
      (exec (.identityFrame 0x31#8 0x32#8 0x41#8 0x42#8) { s0 with asm.awaitingIdentity := true, asm.fill := 4#4, disp.dedupe := 6#8 }) =
    some ([.identFrame 0x31#8 0x32#8 0x41#8 0x42#8], false, 0#4, 6#8) := by rfl

/-- R164: RESPONDS(6) = false. -/
theorem test_executed_silent :
    (executed .setLevel [0#8] { s0 with cfg.silentIds := [6#8] }).disp = ⟨6#8, .idle, none⟩ := by rfl

/-- R180: RESP_ADDR_SEL(33) = Poll -/
theorem test_getPercentage_poll :
    look (fun t => t.disp.respBuf)
      (exec (.getPercentage 0xFE#8) { s0 with cfg.pollIds := [33#8] }) =
    some (some ⟨33#8, .poll, [0#8]⟩) := by rfl

/-! Events, one step each (95_test_vectors.md 3.1 to 3.6). -/

/-- A1 -/
theorem test_rx_filtered :
    look (fun t => t)
      (perform (.rxByte 0x0D#8) { s0 with asm.fill := 3#4 }) =
    some { s0 with asm.fill := 3#4 } := by rfl

/-- A3 -/
theorem test_rx_first :
    look (fun t => (t.asm.fbuf[0], t.asm.fill, t.asm.idleArmed, t.asm.idleCnt, t.asm.identMode))
      (perform (.rxByte 0x41#8) s0) =
    some (0x41#8, 1#4, true, 4, false) := by rfl

/-- A4 -/
theorem test_rx_later :
    look (fun t => (t.asm.fbuf[2], t.asm.fill, t.asm.idleCnt))
      (perform (.rxByte 0x53#8) { s0 with asm.fill := 2#4, asm.idleCnt := 3, asm.idleArmed := true }) =
    some (0x53#8, 3#4, 3) := by rfl

/-- Seven bytes of "ADSPL50" are held and the timer runs. -/
def sevenBytes : State :=
  { s0 with
    asm.fill := 7#4
    asm.idleArmed := true
    asm.idleCnt := 4
    asm.fbuf := #v[0x41#8, 0x44#8, 0x53#8, 0x50#8, 0x4C#8, 0x35#8, 0x30#8, 0#8] }

/-- The frame "ADSPL50" + addr=254 waits for the dispatcher. -/
def framed : State :=
  { s0 with
    asm.framePending := true
    asm.fhold := #v[0x41#8, 0x44#8, 0x53#8, 0x50#8, 0x4C#8, 0x35#8, 0x30#8, 0xFE#8] }

/-- A6 -/
theorem test_rx_eighth :
    look (fun t => t.asm)
      (perform (.rxByte 0xFE#8) sevenBytes) =
    some { framed.asm with fbuf := framed.asm.fhold } := by rfl

/-- A7 -/
theorem test_rx_eighth_runOut :
    look (fun t => (t.asm.framePending, t.asm.idleArmed, t.asm.idleCnt))
      (perform (.rxByte 0xFE#8) { sevenBytes with cfg.idleExpiry := .runOut }) =
    some (true, true, 4) := by rfl

/-- A8 -/
theorem test_rx_overrun :
    look (fun t => (t.asm.fhold, t.asm.framePending, t.asm.fill))
      (perform (.rxByte 0xFE#8) { sevenBytes with asm.framePending := true }) =
    some (blankFrame, true, 0#4) := by rfl

/-- A9 -/
theorem test_tick_counts :
    look (fun t => (t.asm.idleCnt, t.asm.fill))
      (perform (.tick) { sevenBytes with asm.idleCnt := 2 }) =
    some (1, 7#4) := by rfl

/-- A10 -/
theorem test_tick_expires :
    look (fun t => (t.asm.idleArmed, t.asm.fill, t.disp.dedupe))
      (perform (.tick) { sevenBytes with asm.idleCnt := 1, disp.dedupe := 6#8 }) =
    some (false, 0#4, 0xFF#8) := by rfl

/-- I1 -/
theorem test_identRequest :
    look (fun t => t)
      (perform (.identRequest) s0) =
    some { s0 with asm.awaitingIdentity := true } := by rfl

/-- I2 -/
theorem test_rx_first_ident :
    look (fun t => (t.asm.identMode, t.asm.idleCnt))
      (perform (.rxByte 0x31#8) { s0 with asm.awaitingIdentity := true }) =
    some (true, 3) := by rfl

/-- Identity mode with the bytes 31 32 41 42 43 received so far, the given count of them in the frame, on the timer's
last tick. -/
def lastIdentTick (n : BitVec 4) : State :=
  { s0 with
    asm.awaitingIdentity := true
    asm.identMode := true
    asm.idleArmed := true
    asm.idleCnt := 1
    asm.fill := n
    asm.fbuf := #v[0x31#8, 0x32#8, 0x41#8, 0x42#8, 0x43#8, 0#8, 0#8, 0#8]
    disp.dedupe := 6#8 }

/-- I3 -/
theorem test_tick_identity :
    look (fun t => (t.outputs, t.asm.awaitingIdentity, t.asm.identMode, t.disp.dedupe)) (perform .tick (lastIdentTick 4#4)) =
    some ([.identFrame 0x31#8 0x32#8 0x41#8 0x42#8], false, false, 6#8) := by rfl

/-- I5 -/
theorem test_tick_no_identity :
    look (fun t => (t.outputs, t.asm.awaitingIdentity, t.asm.fill, t.disp.dedupe)) (perform .tick (lastIdentTick 5#4)) =
    some ([], true, 0#4, 0xFF#8) := by rfl

/-- D1 -/
theorem test_dispatch_executes :
    look (fun t => (t.asm.framePending, t.ramp.targetDuty, t.disp.dedupe))
      (perform (.dispatch) framed) =
    some (false, 2230#16, 6#8) := by rfl

/-- D2 -/
theorem test_dispatch_group :
    look (fun t => t.ramp.targetDuty)
      (perform (.dispatch) { framed with asm.fhold := framed.asm.fhold.set 7 5#8, conf.groups := #v[5#8, 0xFF#8, 0xFF#8, 0xFF#8, 0xFF#8] }) =
    some 2230#16 := by rfl

/-- D3, W7 -/
theorem test_dispatch_unaddressed :
    look (fun t => t)
      (perform (.dispatch) { framed with asm.fhold := framed.asm.fhold.set 7 7#8 }) =
    some { s0 with asm.fhold := framed.asm.fhold.set 7 7#8 } := by rfl

/-- D4 -/
theorem test_dispatch_own :
    look (fun t => t.ramp.targetDuty)
      (perform (.dispatch) { framed with asm.fhold := framed.asm.fhold.set 7 20#8, cfg.ownAddr := some 20#8 }) =
    some 2230#16 := by rfl

/-- D6 -/
theorem test_dispatch_unmatched :
    look (fun t => (t.asm.framePending, t.disp == s0.disp, t.ramp == s0.ramp))
      (perform (.dispatch) { framed with asm.fhold := framed.asm.fhold.set 2 0x58#8 }) =
    some (false, true, true) := by rfl

/-- D7, W6 -/
theorem test_dispatch_duplicate :
    look (fun t => t)
      (perform (.dispatch) { framed with disp.dedupe := 6#8 }) =
    some { framed with disp.dedupe := 6#8, asm.framePending := false } := by rfl

/-- D9 -/
theorem test_dispatch_waits_resp :
    look (fun t => t)
      (perform (.dispatch) { framed with disp.dispState := .waitResp }) =
    some { framed with disp.dispState := .waitResp } := by rfl

/-- D10 -/
theorem test_dispatch_waits_ramp :
    look (fun t => t.asm.framePending)
      (perform (.dispatch) { framed with ramp.currentDuty := 2310#16 }) =
    some true := by rfl

/-- R181 -/
theorem test_respReady :
    look (fun t => (t.disp, t.outputs))
      (perform (.respReady) { s0 with disp := ⟨33#8, .waitResp, some ⟨33#8, .host, [50#8]⟩⟩ }) =
    some (⟨33#8, .idle, none⟩, [.resp ⟨33#8, .host, [50#8]⟩]) := by rfl

/-- W10 -/
theorem test_ramp_step :
    look (fun t => t.ramp)
      (perform (.tick) { atRest 2230#16 with ramp.currentDuty := 3300#16 }) =
    some ⟨3201#16, 2230#16, 0, 0#8, true⟩ := by rfl

/-- W2 -/
theorem test_ramp_clamps :
    look (fun t => t.ramp.currentDuty)
      (perform (.tick) { atRest 2230#16 with ramp.currentDuty := 2310#16 }) =
    some 2230#16 := by rfl

/-- M10 -/
theorem test_ramp_off_ends :
    look (fun t => (t.ramp.currentDuty, t.ramp.loadOn))
      (perform (.tick) { atRest 3300#16 with ramp.currentDuty := 3267#16 }) =
    some (3300#16, false) := by rfl

/-- M9 -/
theorem test_ramp_pause :
    look (fun t => (t.ramp.currentDuty, t.ramp.rampDelay))
      (perform (.tick) { atRest 2230#16 with ramp.currentDuty := 3300#16, cfg.fadeDelayTable := ⟨[(0, 2)], 9⟩ }) =
    some (3201#16, 2) := by rfl

/-- O1 -/
theorem test_motion_disabled :
    look (fun t => t)
      (perform (.motion) s0) =
    some { s0 with occ.motionFlag := true } := by rfl

/-- O2 -/
theorem test_motion_armed :
    look (fun t => (t.ramp.loadOn, t.occ.timeoutTicks, t.occ.debounce))
      (perform (.motion) { armed with occ.timeoutTicks := 3#8 }) =
    some (true, 0#8, 0#8) := by rfl

/-- O3 -/
theorem test_motion_forced_off :
    look (fun t => (t.ramp.loadOn, t.occ.timeoutTicks))
      (perform (.motion) { armed with occ.timeoutTicks := 3#8, occ.manuallyOff := true }) =
    some (false, 0#8) := by rfl

/-- O4, O5 -/
theorem test_minute_timeout :
    look (fun t => (t.ramp.loadOn, t.occ.timeoutTicks, t.occ.sensorEnabled, t.occ.minutePresc))
      (perform (.tick) { armed with occ.minutePresc := 2, occ.timeoutTicks := 1#8, ramp.loadOn := true }) =
    some (false, 0#8, true, 0) := by rfl

/-- R256 below the limit -/
theorem test_minute_counts :
    look (fun t => (t.ramp.loadOn, t.occ.timeoutTicks))
      (perform (.tick) { armed with occ.minutePresc := 2, conf.maxTimeout := 3#8, occ.timeoutTicks := 1#8, ramp.loadOn := true }) =
    some (true, 2#8) := by rfl

/-- W5 -/
theorem test_window_wraps :
    look (fun t => (t.occ.presentCount, t.occ.motionFlag, t.occ.sampleCnt))
      (perform (.tick) { s0 with occ.requestMode := true, occ.sampleCnt := 1, occ.motionFlag := true, occ.presentCount := 254#8 }) =
    some (0#8, false, 0) := by rfl

/-- O13 -/
theorem test_window_quiet :
    look (fun t => (t.occ.presentCount, t.occ.sampleCnt))
      (perform (.tick) { s0 with occ.requestMode := true, occ.sampleCnt := 1, occ.presentCount := 4#8 }) =
    some (4#8, 0) := by rfl

/-- M1, M2 -/
theorem test_dutyMap_corners :
    [dutyMap 0, dutyMap 10, dutyMap 11, dutyMap 12, dutyMap 13, dutyMap 14, dutyMap 15, dutyMap 50, dutyMap 66,
    dutyMap 67, dutyMap 98, dutyMap 99] =
    [3300#16, 3060#16, 3085#16, 3084#16, 3080#16, 3075#16, 3070#16, 2230#16, 1846#16, 1780#16, 1036#16, 0#16] := by decide

/-- R12: a marked state has no further step. -/
theorem test_step_marked :
    look id (step { s0 with fault := some .undefParam }) = none ∧ look id (step { s0 with refused := some .cmd38Unknown }) =
      none := by decide +kernel

/-- W1 through withFetchWord. -/
theorem test_step_fetched_word :
    look (fun t => (t.ramp.targetDuty, t.disp.dedupe)) (step (s0.withFetchWord 64 0xFE30354C50534441)) =
    some (2230#16, 6#8) := by decide +kernel

/-- I3 through withFetchWord. -/
theorem test_step_fetched_identity : look (fun t => t.outputs) (step (s0.withFetchWord 32 0x42413231)) =
    some [.identFrame 0x31#8 0x32#8 0x41#8 0x42#8] := by decide +kernel

/-! Configuration load (95_test_vectors.md 3.9). -/

/-- L1 -/
theorem test_load_erased : loadImage px.defaults (Vector.replicate 27 0xFF#8) = px.defaults := by rfl

/-- L2, L3, L4 -/
theorem test_load_fadeDelay :
    [((img0.set 12 0x01#8).set 13 0x2C#8), ((img0.set 12 0xFF#8).set 13 0x2C#8), ((img0.set 12 0xFF#8).set 13 0xFF#8)].map
    (fun i => (loadImage px.defaults i).fadeDelay) = [300#16, 65324#16, 0#16] := by decide

/-- L5 -/
theorem test_load_hostAddr :
    (loadImage px.defaults (((img0.set 3 0xFF#8).set 4 0xFF#8).set 5 0xFF#8)).hostAddr =
      #v[0x31#8, 0xFF#8, 0xFF#8, 0xFF#8] := by decide

/-- L6 -/
theorem test_load_commissioned :
    [img0.set 10 0x05#8, img0, img0.set 10 0xFF#8].map (fun i => (loadImage px.defaults i).commissioned) =
    [true, false, false] := by decide

/-- L7 -/
theorem test_load_groups :
    (loadImage px.defaults (img0.set 16 0x07#8)).groups = #v[0xFF#8, 7#8, 0xFF#8, 0xFF#8, 0xFF#8] := by decide

/-- L8 -/
theorem test_load_powerOn :
    (State.resetWith px (img0.set 14 80#8)).conf.powerOnLevel = 80#8 ∧ (State.resetWith px (img0.set 14 80#8)).dutyOut =
      3300#16 := by decide

/-! Witnesses: a concrete state and operands that meet the hypotheses of each obligation that has any, for each of its
clauses. -/

open Sys2Proof.Claims

/-- S0 with events to come. -/
def awaiting (es : List Event) : State :=
  { s0 with schedule := es }

/-- A frame of given bytes waits and is dispatched next. -/
def held (f : Frame8) : State :=
  { s0 with asm.framePending := true, asm.fhold := f, schedule := [.dispatch] }

/-- The frame of a Lit row of TX to address 254. -/
def litFrame (t : Template) : Frame8 :=
  encodeFrame t (.commission 0xFE#8)

theorem ready_of_px (s : State) (hc : s.cfg = px) (hf : s.fault = none) (hr : s.refused = none) : ready s :=
  ⟨hc ▸ test_params_wf, hf, hr⟩

theorem step_of_px (s : State) (hc : s.cfg = px) (hf : s.fault = none) (hr : s.refused = none) : step s = runNext s :=
  step_eq_runNext (hc ▸ test_params_wf) hf hr

theorem live_of_px (s : State) (hc : s.cfg = px) (hf : s.fault = none) (hr : s.refused = none) : s.live = true := by
  simp [State.live, State.marked, hc, hf, hr, test_params_wf]

/-- R15: an infinite run, of motion edges from S0. -/
theorem test_infinite_run :
    IsRun (fun _ => .motion) fun n => match n with
      | 0 => s0
      | _ + 1 => { s0 with occ.motionFlag := true } where
  enabled_each
    | 0 => live_of_px s0 rfl rfl rfl
    | _ + 1 => live_of_px { s0 with occ.motionFlag := true } rfl rfl rfl
  step_each
    | 0 => (step_of_px (awaiting [.motion]) rfl rfl rfl).trans rfl
    | _ + 1 => (step_of_px { s0 with occ.motionFlag := true, schedule := [.motion] } rfl rfl rfl).trans rfl

theorem witness_HostAddrCommands :
    { s0 with conf.commissioned := true }.conf.commissioned = true ∧ s0.conf.commissioned = false := by decide

theorem witness_NumericSettersStore : decode2 0x30#8 0x30#8 = some 0 ∧ decode2 0x39#8 0x39#8 = some 99 := by decide

theorem witness_NonDigitRaisesUndefParam :
    decode2 0x3A#8 0x30#8 = none ∧ decode2 0x2F#8 0x30#8 = none ∧ decode2 0x30#8 0x3A#8 = none ∧
      decode2 0x30#8 0x2F#8 = none := by decide

theorem witness_SetLevelStartsRamp : decode2 0x35#8 0x30#8 = some 50 := by decide

/-- One tick of a ramp down and of a ramp up. -/
theorem witness_DutyMovesWithinFadeRate :
    (∃ s t, step s = .next t ∧ s.ramp.currentDuty.toNat < s.ramp.targetDuty.toNat) ∧
      ∃ s t, step s = .next t ∧ s.ramp.targetDuty.toNat < s.ramp.currentDuty.toNat :=
  ⟨⟨{ awaiting [.tick] with ramp.currentDuty := 2230#16 }, _, (step_of_px _ rfl rfl rfl).trans rfl, by decide⟩,
   { awaiting [.tick] with ramp.targetDuty := 2230#16 }, _, (step_of_px _ rfl rfl rfl).trans rfl, by decide⟩

/-- A ramp from 3300 to 2230 at 99 a step without a pause, of 11 ticks. -/
def ramping : State :=
  { s0 with ramp.targetDuty := 2230#16, schedule := List.replicate 11 .tick }

/-- A ramp to off in one tick. -/
def rampingOff : State :=
  { s0 with ramp.currentDuty := 3201#16, ramp.loadOn := true, schedule := [.tick] }

theorem witness_RampCompletesOnItsTick :
    (ready ramping ∧ ramping.ramp.busy = true ∧ ramping.ramp.rampDelay = 0 ∧ 1 ≤ ramping.conf.fadeRate.toNat ∧
      ramping.schedule = List.replicate (rampTicks ramping) .tick ++ [] ∧ 10 < rampTicks ramping) ∧
    ready rampingOff ∧ rampingOff.ramp.busy = true ∧ rampingOff.ramp.rampDelay = 0 ∧
      1 ≤ rampingOff.conf.fadeRate.toNat ∧
      rampingOff.schedule = List.replicate (rampTicks rampingOff) .tick ++ [] ∧
      isOff rampingOff.ramp.targetDuty = true :=
  ⟨⟨ready_of_px _ rfl rfl rfl, by decide, rfl, by decide, by decide +kernel, by decide +kernel⟩,
   ready_of_px _ rfl rfl rfl, by decide, rfl, by decide, by decide +kernel, by decide⟩

/-- A dispatched "ADSPL50". -/
def dispatched : State := held framed.asm.fhold

theorem witness_NoRampIsRedirected :
    ∃ t, step dispatched = .next t ∧ t.ramp.targetDuty ≠ dispatched.ramp.targetDuty :=
  ⟨_, (step_of_px _ rfl rfl rfl).trans rfl, by decide⟩

theorem witness_ZeroFadeRateHangs :
    ∃ s t, s.rampHang = true ∧ step s = .next t :=
  ⟨{ ramping with conf.fadeRate := 0#8 }, _, by decide, (step_of_px _ rfl rfl rfl).trans rfl⟩

theorem witness_MotionEdge :
    (ready (awaiting [.motion]) ∧ (awaiting [.motion]).schedule = .motion :: [] ∧
      (awaiting [.motion]).occ.sensorEnabled = false) ∧
    ready { armed with schedule := [.motion] } ∧ armed.occ.sensorEnabled = true :=
  ⟨⟨ready_of_px _ rfl rfl rfl, rfl, rfl⟩, ready_of_px _ rfl rfl rfl, rfl⟩

/-- Armed, on the tick at which the prescaler wraps, with given minutes counted and the limit 2. -/
def minute (n : Byte) : State :=
  { armed with occ.minutePresc := 2, occ.timeoutTicks := n, schedule := [.tick] }

/-- At the limit and one below it. -/
theorem witness_MinuteEventTimesOut :
    (∀ n ∈ [0#8, 1#8], ready (minute n) ∧ (minute n).schedule = .tick :: [] ∧ (minute n).occ.sensorEnabled = true ∧
      (minute n).cfg.minuteTicks ≤ (minute n).occ.minutePresc + 1) ∧
    (minute 1#8).conf.maxTimeout.toNat ≤ (minute 1#8).occ.timeoutTicks.toNat + 1 ∧
    (minute 0#8).occ.timeoutTicks.toNat + 1 < (minute 0#8).conf.maxTimeout.toNat :=
  ⟨fun _ _ => ⟨ready_of_px _ rfl rfl rfl, rfl, rfl, Nat.le_refl 3⟩, by decide, by decide⟩

/-- A tick within a minute, and one at its end while Disabled: neither is a timeout or completes a ramp. -/
theorem witness_MinuteCounterHolds :
    (ready (awaiting [.tick]) ∧ (awaiting [.tick]).schedule = .tick :: [] ∧
      (awaiting [.tick]).occ.minutePresc + 1 < (awaiting [.tick]).cfg.minuteTicks) ∧
    ready { minute 1#8 with occ.sensorEnabled := false } ∧ (minute 1#8).schedule = .tick :: [] ∧
      (minute 1#8).cfg.minuteTicks ≤ (minute 1#8).occ.minutePresc + 1 ∧
      (minute 1#8).ramp.currentDuty = (minute 1#8).ramp.targetDuty :=
  ⟨⟨ready_of_px _ rfl rfl rfl, rfl, by decide⟩, ready_of_px _ rfl rfl rfl, rfl, Nat.le_refl 3, rfl⟩

/-- The sampler on with a given count of ticks in the window of 2, motion seen and 254 windows counted. -/
def sampling (n : Nat) : State :=
  { s0 with
    occ.requestMode := true
    occ.sampleCnt := n
    occ.motionFlag := true
    occ.presentCount := 254#8
    schedule := [.tick] }

/-- The sampler off, in a window and at its end. -/
theorem witness_SamplerTick :
    (ready (awaiting [.tick]) ∧ (awaiting [.tick]).occ.requestMode = false) ∧
    (∀ n, ready (sampling n) ∧ (sampling n).schedule = .tick :: [] ∧ (sampling n).occ.presentCount.toNat ≤ 254 ∧
      (sampling n).occ.requestMode = true) ∧
    (sampling 0).occ.sampleCnt + 1 < (sampling 0).cfg.sampleWindowTicks (sampling 0).conf.sensingPeriod ∧
    (sampling 1).cfg.sampleWindowTicks (sampling 1).conf.sensingPeriod ≤ (sampling 1).occ.sampleCnt + 1 :=
  ⟨⟨ready_of_px _ rfl rfl rfl, rfl⟩,
   fun _ => ⟨ready_of_px _ rfl rfl rfl, rfl, Nat.le_refl 254, rfl⟩, by decide, by decide⟩

theorem witness_PresentCountLaw : { s0.occ with presentCount := 254#8 }.presentCount.toNat ≤ 254 := by decide

/-- The first and the last slot. -/
theorem witness_SetGroupInsertsCircularly :
    decode2 0x30#8 0x37#8 = some 7 ∧ s0.groupWp.toNat < 5 ∧ { s0 with groupWp := 4#3 }.groupWp.toNat < 5 := by decide

/-- Scenes 1 and 5. -/
theorem witness_SceneCommands :
    (decode2 0x30#8 0x31#8).map (·.val) = some ((0 : Fin 5).val + 1) ∧
      (decode2 0x30#8 0x35#8).map (·.val) = some ((4 : Fin 5).val + 1) := by decide

/-- Scene 1 holding 98, 99 and 100. -/
theorem witness_GotoSceneRecalls :
    (decode2 0x30#8 0x31#8).map (·.val) = some ((0 : Fin 5).val + 1) ∧
    ({ s0 with conf.scenes := #v[98#8, 99#8, 99#8, 99#8, 99#8] }.conf.scenes[(0 : Fin 5)].toNat = (98 : Percent).val ∧
      (98 : Percent).val < 99) ∧
    s0.conf.scenes[(0 : Fin 5)].toNat = 99 ∧
    99 < { s0 with conf.scenes := #v[100#8, 99#8, 99#8, 99#8, 99#8] }.conf.scenes[(0 : Fin 5)].toNat := by decide

theorem witness_SceneIndexOutOfRangeRaises :
    (decode2 0x30#8 0x30#8 = some 0 ∧ (0 : Percent).val = 0) ∧ decode2 0x30#8 0x36#8 = some 6 ∧
      5 < (6 : Percent).val := by decide

theorem witness_UnnamedCommandIsRefused : s0.cfg.wf = true ∧ s0.fault = none :=
  ⟨test_params_wf, rfl⟩

theorem dispatching_held (f : Frame8) : dispatching (held f) :=
  ⟨ready_of_px _ rfl rfl rfl, rfl, rfl⟩

theorem witness_StepRunsDecodedFrame :
    dispatching dispatched ∧ addrOk dispatched dispatched.asm.fhold[7] = true ∧
      decodeFrame dispatched.cfg.templates dispatched.asm.fhold = .ok (.setLevel 0x35#8 0x30#8 0xFE#8) ∧
      ∀ c, (Instr.setLevel 0x35#8 0x30#8 0xFE#8).cmd = some c → dispatched.disp.dedupe ≠ dispatched.cfg.idOf c :=
  ⟨dispatching_held _, by decide, rfl, fun c h => by cases h; decide⟩

theorem witness_StepRunsIdentityFrame :
    let s := { lastIdentTick 4#4 with schedule := [.tick] }
    ready s ∧ s.schedule = .tick :: [] ∧ s.asm.identMode = true ∧ s.asm.fill = 4#4 ∧ s.asm.idleArmed = true ∧
      s.asm.idleCnt ≤ 1 :=
  ⟨ready_of_px _ rfl rfl rfl, rfl, rfl, rfl, rfl, Nat.le_refl 1⟩

theorem witness_AddressFilter :
    dispatching (held (framed.asm.fhold.set 7 7#8)) ∧
      addrOk (held (framed.asm.fhold.set 7 7#8)) (held (framed.asm.fhold.set 7 7#8)).asm.fhold[7] = false :=
  ⟨dispatching_held _, by decide⟩

theorem witness_UnmatchedFrameDropped :
    let s := held (framed.asm.fhold.set 2 0x58#8)
    dispatching s ∧ ∀ t ∈ s.cfg.templates, t.accepts (payload s.asm.fhold) = false :=
  ⟨dispatching_held _, by decide +kernel⟩

theorem witness_DuplicateSuppressed :
    let s := { dispatched with disp.dedupe := 6#8 }
    dispatching s ∧ decodeFrame s.cfg.templates s.asm.fhold = .ok (.setLevel 0x35#8 0x30#8 0xFE#8) ∧
      (Instr.setLevel 0x35#8 0x30#8 0xFE#8).cmd = some .setLevel ∧ s.disp.dedupe = s.cfg.idOf .setLevel :=
  ⟨⟨ready_of_px _ rfl rfl rfl, rfl, rfl⟩, rfl, rfl, rfl⟩

theorem witness_DispatchWaits :
    (ready (awaiting [.dispatch]) ∧ (awaiting [.dispatch]).nextEvent = .dispatch ∧
      (awaiting [.dispatch]).asm.framePending = false) ∧
    (ready { dispatched with disp.dispState := .waitResp } ∧ dispatched.nextEvent = .dispatch) ∧
    ready { dispatched with ramp.targetDuty := 2230#16 } ∧
      { dispatched with ramp.targetDuty := 2230#16 }.ramp.currentDuty ≠ 2230#16 :=
  ⟨⟨ready_of_px _ rfl rfl rfl, rfl, rfl⟩, ⟨ready_of_px _ rfl rfl rfl, rfl⟩, ready_of_px _ rfl rfl rfl, by decide⟩

theorem witness_MarkedStateHasNoStep :
    ({ s0 with fault := some .undefParam }.cfg.wf = true ∧ { s0 with fault := some .undefParam }.fault = some .undefParam) ∧
    ({ s0 with refused := some .cmd38Unknown }.cfg.wf = true ∧
      { s0 with refused := some .cmd38Unknown }.refused = some .cmd38Unknown) ∧
    { s0 with cfg.minuteTicks := 0 }.cfg.wf = false :=
  ⟨⟨test_params_wf, rfl⟩, ⟨test_params_wf, rfl⟩, test_params_refuse_minute⟩

theorem witness_FilteredByteChangesNothing :
    ∀ b ∈ [0x00#8, 0x0A#8, 0x0D#8, 0xFF#8], ready (awaiting [.rxByte b]) ∧
      (awaiting [.rxByte b]).schedule = .rxByte b :: [] ∧ (b.toNat = 0 ∨ b.toNat = 10 ∨ b.toNat = 13 ∨ b.toNat = 255) :=
  fun b hb => ⟨ready_of_px _ rfl rfl rfl, rfl, by revert b; decide⟩

/-- The first, the second and the seventh byte. -/
theorem witness_AcceptedByteStored :
    isFiltered 0x41#8 = false ∧
    (ready (awaiting [.rxByte 0x41#8]) ∧ (awaiting [.rxByte 0x41#8]).asm.fill = 0#4) ∧
    ∀ n ∈ [1#4, 6#4], ready { awaiting [.rxByte 0x41#8] with asm.fill := n } ∧ 0 < n.toNat ∧ n.toNat < 7 :=
  ⟨rfl, ⟨ready_of_px _ rfl rfl rfl, rfl⟩, fun n hn => ⟨ready_of_px _ rfl rfl rfl, by revert n; decide⟩⟩

theorem witness_EighthByteCompletes :
    let s := { sevenBytes with schedule := [.rxByte 0xFE#8] }
    (ready s ∧ s.schedule = .rxByte 0xFE#8 :: [] ∧ isFiltered 0xFE#8 = false ∧ s.asm.fill = 7#4) ∧
      (s.asm.framePending = false ∧ s.cfg.idleExpiry = .disarm) ∧
      { s with asm.framePending := true }.asm.framePending = true ∧
      { s with cfg.idleExpiry := .runOut }.cfg.idleExpiry = .runOut ∧
      { px with idleExpiry := .runOut }.wf = true :=
  ⟨⟨ready_of_px _ rfl rfl rfl, rfl, rfl, rfl⟩, ⟨rfl, rfl⟩, rfl, rfl, by decide +kernel⟩

/-- A partial frame with four ticks left, and one with its last. -/
theorem witness_PartialFrameTimesOut :
    ∀ n ∈ [4, 1],
      let s := { sevenBytes with asm.idleCnt := n, schedule := List.replicate n .tick }
      ready s ∧ s.asm.idleArmed = true ∧ s.asm.idleCnt = n ∧ 1 ≤ n ∧ ¬(s.asm.identMode = true ∧ s.asm.fill = 4#4) ∧
        s.schedule = List.replicate n .tick ++ [] :=
  fun n hn => ⟨ready_of_px _ rfl rfl rfl, rfl, rfl, by revert n; decide, fun h => Bool.noConfusion h.1,
    (List.append_nil _).symm⟩

theorem witness_IdentRequestAwaits :
    ready (awaiting [.identRequest]) ∧ (awaiting [.identRequest]).schedule = .identRequest :: [] :=
  ⟨ready_of_px _ rfl rfl rfl, rfl⟩

/-- S0 with the answer to a GET_PERCENTAGE held. -/
def responding : State :=
  { s0 with disp := ⟨33#8, .waitResp, some ⟨33#8, .host, [50#8]⟩⟩ }

theorem witness_RespReadyHandsOver :
    (ready { responding with schedule := [.respReady] } ∧ responding.disp.dispState = .waitResp ∧
      responding.disp.respBuf = some ⟨33#8, .host, [50#8]⟩) ∧
    ready (awaiting [.respReady]) ∧ (awaiting [.respReady]).disp.dispState = .idle :=
  ⟨⟨ready_of_px _ rfl rfl rfl, rfl, rfl⟩, ready_of_px _ rfl rfl rfl, rfl⟩

theorem witness_UnacceptedResponseHangs :
    ∃ s t, s.disp.dispState = .waitResp ∧ s.nextEvent ≠ .respReady ∧ step s = .next t ∧ s.asm.framePending = true :=
  ⟨{ responding with asm.framePending := true, schedule := [.rxByte 0x41#8] }, _, rfl, by decide,
   (step_of_px _ rfl rfl rfl).trans rfl, rfl⟩

theorem witness_OnlyDispatchWritesConfiguration :
    ∃ s t, step s = .next t ∧ ¬dispatching s :=
  ⟨awaiting [.tick], _, (step_of_px _ rfl rfl rfl).trans rfl, fun h => Event.noConfusion h.2.1⟩

/-- A commissioned device: RESET_HOST_ADDR writes the host address, DECOMMISSION the flag. -/
theorem witness_CommissioningLockHolds :
    (∃ s t, step s = .next t ∧ s.conf.commissioned = true ∧ t.conf.hostAddr ≠ s.conf.hostAddr) ∧
      ∃ s t, step s = .next t ∧ s.conf.commissioned = true ∧ t.conf.commissioned = false :=
  ⟨⟨{ held (litFrame txLow[1]) with conf.commissioned := true }, _, (step_of_px _ rfl rfl rfl).trans rfl, rfl, by decide⟩,
   { held (litFrame txHigh[1]) with conf.commissioned := true }, _, (step_of_px _ rfl rfl rfl).trans rfl, rfl, rfl⟩

theorem witness_StoreWrittenOnlyByCommand :
    ∃ t, step (held (litFrame txHigh[3])) = .next t ∧ t.outputs = [] ++ [.nvCommit img0] :=
  ⟨_, (step_of_px _ rfl rfl rfl).trans rfl, rfl⟩

theorem witness_ParametersNeverWritten : ∃ t, step dispatched = .next t :=
  ⟨_, (step_of_px _ rfl rfl rfl).trans rfl⟩

theorem witness_MatchedIdIsTablePosition :
    tableOk tx = true ∧ matchTemplate tx (payload framed.asm.fhold) = tx[6]? := by decide +kernel

theorem witness_DecodeEncodeAgree : tableOk tx = true ∧ usualKinds tx = true ∧ prefixFree tx = true := by decide +kernel

/-- The invariant holds of a state right after reset with the frame "ADSPL50" received. -/
theorem inv_dispatched : dispatched.Inv where
  cfg_wf := test_params_wf
  fill_lt := by decide
  fbuf_sendable := by decide
  fhold_sendable := by decide
  timer_armed := by decide
  timer_bound := by decide
  partial_timed := by decide
  ident_partial := by decide
  resp_held := by decide
  resp_nonempty := fun _ h => nomatch h
  dedupe_id := by decide
  group_wp_lt := by decide
  current_le := by decide
  target_le := by decide
  active_le := by decide
  debounce_clear := by decide
  minute_lt := by decide
  count_le := by decide

theorem witness_HeldFramesAreWellFormed :
    dispatched.Inv ∧ dispatched.asm.framePending = true ∧
      decodeFrame dispatched.cfg.templates dispatched.asm.fhold = .ok (.setLevel 0x35#8 0x30#8 0xFE#8) :=
  ⟨inv_dispatched, rfl, rfl⟩

/-- A one-byte field, a flag and the fade delay, erased and written; an address with all four bytes erased and with
three. -/
theorem witness_LoadFieldByField :
    img0[0] ≠ 0xFF#8 ∧ (img0.set 0 0xFF#8)[0] = 0xFF#8 ∧
    img0[10] ≠ 0xFF#8 ∧ (img0.set 10 0xFF#8)[10] = 0xFF#8 ∧ img0[25] ≠ 0xFF#8 ∧ (img0.set 25 0xFF#8)[25] = 0xFF#8 ∧
    (((img0.set 12 0xFF#8).set 13 0xFF#8)[12] = 0xFF#8 ∧ ((img0.set 12 0xFF#8).set 13 0xFF#8)[13] = 0xFF#8) ∧
    ¬((img0.set 12 0xFF#8)[12] = 0xFF#8 ∧ (img0.set 12 0xFF#8)[13] = 0xFF#8) ∧
    (loadImage px.defaults ((((img0.set 2 0xFF#8).set 3 0xFF#8).set 4 0xFF#8).set 5 0xFF#8)).hostAddr = chars0 ∧
    (loadImage px.defaults (((img0.set 2 0xFF#8).set 3 0xFF#8).set 4 0xFF#8)).hostAddr =
      #v[0xFF#8, 0xFF#8, 0xFF#8, 0x34#8] := by decide

theorem witness_StepKeepsImageLoadsBack : dispatched.Inv ∧ dispatched.imageLoadsBack ∧ ∃ t, step dispatched = .next t :=
  ⟨inv_dispatched, rfl, witness_ParametersNeverWritten⟩

theorem witness_ResetHasInv : px.wf = true := test_params_wf

theorem witness_StepKeepsInv : dispatched.Inv ∧ ∃ t, step dispatched = .next t :=
  ⟨inv_dispatched, witness_ParametersNeverWritten⟩

end Sys2Proof.Tests
end

section
/-! What a step leaves of the parameters, the schedule and the recorded outputs (20_memory.md R73, R81; 46_system.md
R320), and with it the two statements of that family. -/

namespace Sys2Proof.Machine

/-! The relation, and the state operations in terms of it. -/

/-- From `s` to `t` the outputs `new` are recorded, and the parameters and the schedule are kept. -/
structure Adds (new : List Output) (s t : State) : Prop where
  cfg : t.cfg = s.cfg
  schedule : t.schedule = s.schedule
  outputs : t.outputs = s.outputs ++ new

theorem Adds.nothing {s t : State} (hc : t.cfg = s.cfg) (hs : t.schedule = s.schedule) (ho : t.outputs = s.outputs) :
    Adds [] s t :=
  ⟨hc, hs, by rw [ho, List.append_nil]⟩

theorem Adds.then_nothing {new : List Output} {s t u : State} (h : Adds new s t) (h' : Adds [] t u) : Adds new s u :=
  ⟨h'.cfg.trans h.cfg, h'.schedule.trans h.schedule, by rw [h'.outputs, List.append_nil, h.outputs]⟩

theorem rxByte_adds_nothing (b : Byte) (s : State) : Adds [] s (rxByte b s) := by
  unfold rxByte
  split <;> exact .nothing rfl rfl rfl

theorem debounceStep_adds_nothing (s : State) : Adds [] s (debounceStep s) := by
  simp only [debounceStep]
  split <;> exact .nothing rfl rfl rfl

theorem motion_adds_nothing (s : State) : Adds [] s (motion s) := by
  have flagged : Adds [] s { s with occ.motionFlag := true } := .nothing rfl rfl rfl
  simp only [motion]
  split
  · exact flagged.then_nothing (debounceStep_adds_nothing _)
  · exact flagged

theorem minuteEvent_adds_nothing (s : State) : Adds [] s (minuteEvent s) := by
  unfold minuteEvent
  split
  · split <;> exact .nothing rfl rfl rfl
  · exact .nothing rfl rfl rfl

theorem minuteTick_adds_nothing (s : State) : Adds [] s (minuteTick s) := by
  unfold minuteTick
  split
  · have wrapped : Adds [] s { s with occ.minutePresc := 0 } := .nothing rfl rfl rfl
    exact wrapped.then_nothing (minuteEvent_adds_nothing _)
  · exact .nothing rfl rfl rfl

theorem occupancyTick_adds_nothing (s : State) : Adds [] s (occupancyTick s) :=
  (minuteTick_adds_nothing s).then_nothing (.nothing rfl rfl rfl)

/-! The instructions. -/

/-- The answer is a next state that records no output. -/
def Quiet (s : State) (r : Result) : Prop :=
  ∃ t, r = .next t ∧ Adds [] s t

theorem Quiet.next {s t : State} (hc : t.cfg = s.cfg) (hs : t.schedule = s.schedule) (ho : t.outputs = s.outputs) :
    Quiet s (.next t) :=
  ⟨t, rfl, .nothing hc hs ho⟩

theorem Quiet.withNumber {hi lo : Byte} {s : State} {act : Percent → State} (h : ∀ v, Quiet s (.next (act v))) :
    Quiet s (withNumber hi lo s act) := by
  obtain ⟨v, -, hv⟩ | ⟨-, hv⟩ := withNumber_cases hi lo s act <;> rw [hv]
  · exact h v
  · exact .next rfl rfl rfl

theorem Quiet.withScene {hi lo : Byte} {s : State} {act : Fin 5 → Result} (h : ∀ k, Quiet s (act k)) :
    Quiet s (withScene hi lo s act) := by
  obtain ⟨k, -, hk⟩ | ⟨-, hk⟩ := withScene_cases hi lo s act <;> rw [hk]
  · exact h k
  · exact .next rfl rfl rfl

theorem execSetHostAddr_quiet (a0 a1 a2 a3 : Byte) (s : State) : Quiet s (execSetHostAddr a0 a1 a2 a3 s) := by
  unfold execSetHostAddr
  split <;> exact .next rfl rfl rfl

theorem execGotoScene_quiet (hi lo : Byte) (s : State) : Quiet s (execGotoScene hi lo s) := by
  refine Quiet.withScene fun k => ?_
  obtain ⟨-, hk⟩ | ⟨-, _, hk⟩ | ⟨-, hk⟩ := recallScene_cases s.conf.scenes[k] s <;> rw [hk] <;>
    exact .next rfl rfl rfl

/-- The outputs an instruction records, `c` being the mirror it leaves: one commit for the two commands that write the
store (R321, R322), one blink, one identity (R325, R128), and nothing else. -/
def emittedBy (i : Instr) (c : Persistent) : List Output :=
  match i with
  | .writeFlash _ | .factoryReset _ => [.nvCommit (imageOf c)]
  | .identify _ => [.blink]
  | .identityFrame i0 i1 i2 i3 => [.identFrame i0 i1 i2 i3]
  | _ => []

theorem nvCommit_mem_emittedBy {i : Instr} {c : Persistent} {img : Image} :
    .nvCommit img ∈ emittedBy i c ↔ (i.cmd = some .writeFlash ∨ i.cmd = some .factoryReset) ∧ img = imageOf c := by
  cases i <;> simp [emittedBy, Instr.cmd]

/-- Every instruction answers a next state, and records exactly `emittedBy`. -/
theorem exec_adds (i : Instr) (s : State) : ∃ t, exec i s = .next t ∧ Adds (emittedBy i t.conf) s t := by
  cases i with
  | writeFlash | factoryReset | identify | identityFrame => exact ⟨_, rfl, rfl, rfl, rfl⟩
  | setHostAddr a0 a1 a2 a3 => exact execSetHostAddr_quiet a0 a1 a2 a3 s
  | gotoScene hi lo => exact execGotoScene_quiet hi lo s
  | setSensingFreq | setTimeout | setPowerOnLevel | setLevel | setFadeRate | setFadeDelay | setGroup | storeLisGroup =>
    exact Quiet.withNumber fun _ => .next rfl rfl rfl
  | setScene | getScene | clearScene => exact Quiet.withScene fun _ => .next rfl rfl rfl
  | resetHostAddr | setPollAddr | getGroup | clearGroup | getLisGroup | clearLisGroup | commission | decommission
  | getSensorData | clearCount | relayOn | relayOff | disableSensor | enableSensor | getSettings | enableRequestMode
  | getTimeout | getPercentage | getGroupCount | getHealth | getOwnAddress | cmd38 => exact Quiet.next rfl rfl rfl

/-! The events. -/

/-- No output of the list writes the store. -/
def NoCommit (new : List Output) : Prop :=
  ∀ img, .nvCommit img ∉ new

theorem noCommit_nil : NoCommit [] :=
  fun _ => List.not_mem_nil

theorem noCommit_respOutput (r : Option Resp) : NoCommit (respOutput r) := by
  intro img
  cases r <;> simp [respOutput]

theorem assemblerTick_adds_noCommit (s : State) :
    ∃ t new, assemblerTick s = .next t ∧ Adds new s t ∧ NoCommit new := by
  obtain ⟨-, h⟩ | ⟨-, -, -, h⟩ | ⟨-, -, h⟩ := assemblerTick_cases s
  · exact ⟨_, [], h, .nothing rfl rfl rfl, noCommit_nil⟩
  · exact ⟨_, [_], h, ⟨rfl, rfl, rfl⟩, fun img => by simp⟩
  · exact ⟨_, [], h, .nothing rfl rfl rfl, noCommit_nil⟩

theorem tick_adds_noCommit {s t : State} (h : tick s = .next t) : ∃ new, Adds new s t ∧ NoCommit new := by
  obtain ⟨u, new, hu, added, quiet⟩ := assemblerTick_adds_noCommit s
  have ramped : Adds [] u (rampTick u) := .nothing rfl rfl rfl
  simp only [tick, hu, Host.Outcome.next.injEq] at h
  subst h
  exact ⟨new, (added.then_nothing ramped).then_nothing (occupancyTick_adds_nothing _), quiet⟩

/-- A `Dispatch` drops its frame and records nothing, or executes it and records what its instruction emits (R152). -/
theorem dispatchFrame_adds {s t : State} (h : dispatchFrame s = .next t) :
    Adds [] s t ∨
      ∃ c, addrOk s s.asm.fhold[7] = true ∧ s.disp.dedupe ≠ s.cfg.idOf c ∧
        decodeFrame s.cfg.templates s.asm.fhold = .ok (Instr.ofFrame c s.asm.fhold) ∧
        Adds (emittedBy (Instr.ofFrame c s.asm.fhold) t.conf) s t := by
  have dropped {u : State} (hd : dispatchFrame s = .next (takeFrame s)) (hu : dispatchFrame s = .next u) :
      Adds [] s u := by
    cases hd.symm.trans hu
    exact .nothing rfl rfl rfl
  obtain ⟨-, hd⟩ | ⟨-, -, hd⟩ | ⟨_, -, -, -, hd⟩ | ⟨row, haddr, hmatch, hnew, hexec⟩ := dispatchFrame_cases s
  · exact .inl (dropped hd h)
  · exact .inl (dropped hd h)
  · exact .inl (dropped hd h)
  · obtain ⟨u, hu, added⟩ := exec_adds (Instr.ofFrame row.name s.asm.fhold) (takeFrame s)
    cases hu.symm.trans (hexec.symm.trans h)
    exact .inr ⟨row.name, haddr, hnew, by simp only [decodeFrame, hmatch], added.cfg, added.schedule, added.outputs⟩

open Sys2Proof.Claims

/-- After taking its event, a step records outputs and keeps the parameters and the rest of the schedule. It writes the
store only if it executes a command, and then records what that instruction emits. -/
theorem step_adds {s t : State} (h : step s = .next t) :
    ∃ new, Adds new (takeEvent s) t ∧
      (NoCommit new ∨ ∃ c i, executes s c ∧ i.cmd = some c ∧ new = emittedBy i t.conf) := by
  obtain ⟨hwf, hfault, hrefused, hrun⟩ := step_next h
  unfold runNext at hrun
  generalize he : s.nextEvent = e at hrun
  cases e with
  | rxByte b =>
    cases hrun
    exact ⟨[], rxByte_adds_nothing b _, .inl noCommit_nil⟩
  | tick =>
    obtain ⟨new, added, quiet⟩ := tick_adds_noCommit hrun
    exact ⟨new, added, .inl quiet⟩
  | motion =>
    cases hrun
    exact ⟨[], motion_adds_nothing _, .inl noCommit_nil⟩
  | identRequest =>
    cases hrun
    exact ⟨[], .nothing rfl rfl rfl, .inl noCommit_nil⟩
  | respReady =>
    simp only [perform] at hrun
    split at hrun <;> cases hrun
    · exact ⟨_, ⟨rfl, rfl, rfl⟩, .inl (noCommit_respOutput _)⟩
    · exact ⟨[], .nothing rfl rfl rfl, .inl noCommit_nil⟩
  | dispatch =>
    simp only [perform] at hrun
    split at hrun
    next henabled =>
      obtain quiet | ⟨c, haddr, hnew, hdecode, added⟩ := dispatchFrame_adds hrun
      · exact ⟨[], quiet, .inl noCommit_nil⟩
      · have hdispatching : dispatching s := ⟨⟨hwf, hfault, hrefused⟩, he, henabled⟩
        have hexecutes : executes s c := ⟨hdispatching, haddr, hnew, _, hdecode, Instr.ofFrame_cmd c _⟩
        exact ⟨_, added, .inr ⟨c, _, hexecutes, Instr.ofFrame_cmd c _, rfl⟩⟩
    next =>
      cases hrun
      exact ⟨[], .nothing rfl rfl rfl, .inl noCommit_nil⟩

/-- Settles O47: only the outputs of an executed instruction can hold a commit, and `emittedBy` holds one for
WRITE_FLASH and FACTORY_RESET alone. -/
theorem storeWrittenOnlyByCommand : Obligations.StoreWrittenOnlyByCommand := by
  intro s t h
  obtain ⟨new, added, quiet | ⟨c, i, hexecutes, hcmd, rfl⟩⟩ := step_adds h
  · exact ⟨new, added.outputs, fun img hmem => absurd hmem (quiet img)⟩
  · refine ⟨_, added.outputs, fun img hmem => ?_⟩
    obtain ⟨hwhich, himg⟩ := nvCommit_mem_emittedBy.mp hmem
    simp only [hcmd, Option.some.injEq] at hwhich
    obtain rfl | rfl := hwhich
    · exact ⟨.inl hexecutes, himg⟩
    · exact ⟨.inr hexecutes, himg⟩

/-- Settles O48: every step keeps both fields once its event is taken. -/
theorem parametersNeverWritten : Obligations.ParametersNeverWritten := by
  intro s t h
  obtain ⟨_, added, -⟩ := step_adds h
  exact ⟨added.cfg, added.schedule⟩

end Sys2Proof.Machine
end

section
/-! The bytes of a decoded frame (30_encoding.md R92, R93, R97, R98), and with them the statement that a held frame
decodes to a well-formed instruction (70_reset_and_hazards.md R386). -/

namespace Sys2Proof

/-- A frame's bytes in wire order (R93). -/
theorem toList_frame (f : Frame8) : f.toList = [f[0], f[1], f[2], f[3], f[4], f[5], f[6], f[7]] := by
  refine List.ext_getElem (by simp) fun k hk _ => ?_
  have hk8 : k < 8 := by simpa using hk
  interval_cases k <;> simp

/-- The fields of every command end its frame: four characters from byte 3 (R98), two digits from byte 5 (R97), or the
address alone (R93). -/
theorem Instr.ofFrame_bytes_suffix (c : Cmd) (f : Frame8) : (Instr.ofFrame c f).bytes <:+ f.toList := by
  rw [toList_frame]
  cases c with
  | setHostAddr | setPollAddr => exact ⟨[f[0], f[1], f[2]], rfl⟩
  | setSensingFreq | setTimeout | setPowerOnLevel | setLevel | setFadeRate | setFadeDelay | setGroup | setScene
  | getScene | gotoScene | clearScene | storeLisGroup => exact ⟨[f[0], f[1], f[2], f[3], f[4]], rfl⟩
  | resetHostAddr | getGroup | clearGroup | getLisGroup | clearLisGroup | commission | decommission | identify
  | writeFlash | getSensorData | clearCount | relayOn | relayOff | disableSensor | enableSensor | factoryReset
  | getSettings | enableRequestMode | getTimeout | getPercentage | getGroupCount | getHealth | getOwnAddress
  | cmd38 => exact ⟨payload f, rfl⟩

theorem Instr.wf_iff (i : Instr) : i.wf = true ↔ ∀ b ∈ i.bytes, isFiltered b = false := by
  simp [Instr.wf]

/-- A frame of accepted bytes gives every command a well-formed instruction, since its fields are bytes of the
frame. -/
theorem Instr.ofFrame_wf (c : Cmd) {f : Frame8} (h : ∀ k : Fin 8, isFiltered f[k] = false) :
    (Instr.ofFrame c f).wf = true := by
  refine (Instr.wf_iff _).mpr fun b hb => ?_
  have hframe : b ∈ f.toList := (Instr.ofFrame_bytes_suffix c f).mem hb
  obtain ⟨k, hk, rfl⟩ := Vector.getElem_of_mem (Vector.mem_toList_iff.mp hframe)
  exact h ⟨k, hk⟩

/-- A frame decodes exactly to the instruction of the command whose row matched (R156, R157). -/
theorem decodeFrame_eq_ok_iff {ts : List Template} {f : Frame8} {i : Instr} :
    decodeFrame ts f = .ok i ↔ ∃ t, matchTemplate ts (payload f) = some t ∧ Instr.ofFrame t.name f = i := by
  unfold decodeFrame
  cases matchTemplate ts (payload f) with
  | none => simp
  | some t => simp

end Sys2Proof

namespace Sys2Proof.Machine

/-- Settles O53: the invariant says that a held frame has accepted bytes only, and its instruction takes its fields from
them, whichever row matched. -/
theorem heldFramesAreWellFormed : Obligations.HeldFramesAreWellFormed := by
  intro s i hinv hheld hdecode
  obtain ⟨t, -, rfl⟩ := decodeFrame_eq_ok_iff.mp hdecode
  exact Instr.ofFrame_wf t.name (hinv.fhold_sendable hheld)

end Sys2Proof.Machine
end

section
/-! The address filter, the matcher and the three ways a `Dispatch` drops its frame (41_dispatcher.md R150 to R159), and
with them the statements of that family. -/

namespace Sys2Proof

/-- The template test fails exactly when the payload does not carry the prefix (R156). -/
theorem Template.accepts_eq_false_iff (t : Template) (p : List Byte) :
    t.accepts p = false ↔ ¬∀ j, j < t.P → p[j]? = t.pre[j]? := by
  rw [← Template.accepts_iff, Bool.not_eq_true]

/-- A payload that every row refuses matches no row. -/
theorem matchTemplate_eq_none {ts : List Template} {p : List Byte} (h : ∀ t ∈ ts, t.accepts p = false) :
    matchTemplate ts p = none :=
  List.find?_eq_none.mpr fun t ht => by simp [h t ht]

/-- The matched row accepts the payload and stands after rows that all refuse it (R157). -/
theorem matchTemplate_eq_some_iff {ts : List Template} {p : List Byte} {t : Template} :
    matchTemplate ts p = some t ↔
      ∃ before after, ts = before ++ t :: after ∧ t.accepts p = true ∧ ∀ u ∈ before, u.accepts p = false := by
  unfold matchTemplate
  rw [List.find?_eq_some_iff_append]
  constructor
  · rintro ⟨haccepts, before, after, hsplit, hrefuse⟩
    exact ⟨before, after, hsplit, haccepts, fun u hu => by simpa using hrefuse u hu⟩
  · rintro ⟨before, after, hsplit, haccepts, hrefuse⟩
    exact ⟨haccepts, before, after, hsplit, fun u hu => by simpa using hrefuse u hu⟩

end Sys2Proof

namespace Sys2Proof.Machine

open Sys2Proof.Claims

/-- A slot vector holds `a` in an occupied slot exactly when one of its five indices does. -/
theorem any_occupied_iff (g : Slots5) (a : Byte) :
    (g.toList.any fun x => x != Config.groupEmpty && x == a) = true ↔ ∃ k : Fin 5, g[k] ≠ 0xFF#8 ∧ g[k] = a := by
  simp only [List.any_eq_true, Vector.mem_toList_iff, Bool.and_eq_true, bne_iff_ne, beq_iff_eq]
  constructor
  · rintro ⟨x, hx, hoccupied⟩
    obtain ⟨k, hk, rfl⟩ := Vector.getElem_of_mem hx
    exact ⟨⟨k, hk⟩, hoccupied⟩
  · rintro ⟨k, hoccupied⟩
    exact ⟨g[k], Vector.getElem_mem k.isLt, hoccupied⟩

/-- The three-part formula of `addr_ok` (R154). -/
theorem addrOk_iff (s : State) (a : Byte) :
    addrOk s a = true ↔
      a = 254#8 ∨ (∃ k : Fin 5, s.conf.groups[k] ≠ 0xFF#8 ∧ s.conf.groups[k] = a) ∨ s.cfg.ownAddr = some a := by
  unfold addrOk
  rw [Bool.or_eq_true, Bool.or_eq_true, any_occupied_iff, beq_iff_eq, beq_iff_eq, or_assoc]
  rfl

/-- A step that takes an enabled `Dispatch` dispatches the held frame; the event it takes is nothing the dispatcher
reads (R150, R152). -/
theorem step_eq_dispatchFrame {s : State} (h : dispatching s) : step s = dispatchFrame (takeEvent s) := by
  obtain ⟨⟨hwf, hfault, hrefused⟩, hevent, henabled⟩ := h
  rw [step_eq_runNext hwf hfault hrefused, runNext, hevent]
  exact if_pos henabled

/-- A `Dispatch` writes only `frame_pending`, unless its frame passes the filter and matches a command that is not the
one last executed (R152). -/
theorem step_eq_dropped {s : State} (h : dispatching s)
    (hdrop : ∀ t, addrOk s s.asm.fhold[7] = true → matchTemplate s.cfg.templates (payload s.asm.fhold) = some t →
      s.disp.dedupe = s.cfg.idOf t.name) :
    step s = .next (dropped s) := by
  rw [step_eq_dispatchFrame h]
  obtain ⟨-, hd⟩ | ⟨-, -, hd⟩ | ⟨_, -, -, -, hd⟩ | ⟨t, haddr, hmatch, hnew, -⟩ := dispatchFrame_cases (takeEvent s)
  · exact hd
  · exact hd
  · exact hd
  · exact absurd (hdrop t haddr hmatch) hnew

/-- Settles O33: the filter is its formula, and a frame it refuses is not executed, whatever it matches. -/
theorem addressFilter : Obligations.AddressFilter :=
  ⟨addrOk_iff, fun _ hdispatching hrefused =>
    step_eq_dropped hdispatching fun _ haddr _ => absurd haddr (Bool.eq_false_iff.mp hrefused)⟩

/-- Settles O34: a payload that every row refuses matches no command. -/
theorem unmatchedFrameDropped : Obligations.UnmatchedFrameDropped := by
  intro s hdispatching hrefuse
  refine step_eq_dropped hdispatching fun t _ hmatch => ?_
  rw [matchTemplate_eq_none hrefuse] at hmatch
  cases hmatch

/-- Settles O35: the row that matches is the one the frame decodes by, so its command is the duplicate. -/
theorem duplicateSuppressed : Obligations.DuplicateSuppressed := by
  intro s i c hdispatching hdecode hcmd hduplicate
  obtain ⟨row, hrow, rfl⟩ := decodeFrame_eq_ok_iff.mp hdecode
  obtain rfl : row.name = c := by simpa using hcmd
  refine step_eq_dropped hdispatching fun t _ hmatch => ?_
  obtain rfl : row = t := Option.some.inj (hrow.symm.trans hmatch)
  exact hduplicate

/-- Settles O49: the matcher's first accepted row, with acceptance spelled out as the prefix test. -/
theorem firstMatchWins : Obligations.FirstMatchWins := by
  intro ts p t
  simp only [matchTemplate_eq_some_iff, Template.accepts_iff, Template.accepts_eq_false_iff]

end Sys2Proof.Machine
end

section
/-! The addressing and commissioning commands (42_cmd_addressing.md), and with them the statements of that family. -/

namespace Sys2Proof.Machine

open Sys2Proof.Claims

/-- The model's answer of an executed command is the one the statements spell out (R160, R161, R164, R180). -/
theorem executed_eq_answer (c : Cmd) (p : List Byte) (s : State) : executed c p s = answer c p s := by
  unfold answer answered
  split
  next hresponds => simp only [executed, if_pos hresponds]
  next hsilent => simp only [executed, if_neg hsilent]

theorem executedOpen_eq_openAnswer (c : Cmd) (s : State) : executedOpen c s = openAnswer c s :=
  executed_eq_answer c (openPayload c s) s

/-- An answer is held in the dispatcher and leaves the configuration (R161). -/
@[simp] theorem openAnswer_conf (c : Cmd) (s : State) : (openAnswer c s).conf = s.conf := rfl

/-- The poll address is stored without a look at the commissioning flag (R192). -/
theorem exec_setPollAddr (a0 a1 a2 a3 addr : Byte) (s : State) :
    exec (.setPollAddr a0 a1 a2 a3 addr) s =
      .next (openAnswer .setPollAddr { s with conf.pollAddr := #v[a0, a1, a2, a3] }) :=
  congrArg Host.Outcome.next (executedOpen_eq_openAnswer _ _)

theorem exec_commission (addr : Byte) (s : State) :
    exec (.commission addr) s = .next (openAnswer .commission { s with conf.commissioned := true }) :=
  congrArg Host.Outcome.next (executedOpen_eq_openAnswer _ _)

theorem exec_decommission (addr : Byte) (s : State) :
    exec (.decommission addr) s = .next (openAnswer .decommission { s with conf.commissioned := false }) :=
  congrArg Host.Outcome.next (executedOpen_eq_openAnswer _ _)

/-- While commissioned, SET_HOST_ADDR is executed and does no more (R190). -/
theorem exec_setHostAddr_locked (a0 a1 a2 a3 addr : Byte) {s : State} (h : s.conf.commissioned = true) :
    exec (.setHostAddr a0 a1 a2 a3 addr) s = .next (executedSilently .setHostAddr s) :=
  if_pos h

/-- With the flag clear, SET_HOST_ADDR stores its four characters (R190). -/
theorem exec_setHostAddr_unlocked (a0 a1 a2 a3 addr : Byte) {s : State} (h : s.conf.commissioned = false) :
    exec (.setHostAddr a0 a1 a2 a3 addr) s =
      .next (openAnswer .setHostAddr { s with conf.hostAddr := #v[a0, a1, a2, a3] }) := by
  rw [← executedOpen_eq_openAnswer]
  exact if_neg (Bool.eq_false_iff.mp h)

/-- Settles O2: the fields of the frame's instruction are its bytes 3 to 6, and the store has no condition. -/
theorem setPollAddrStores : Obligations.SetPollAddrStores :=
  ⟨rfl, fun s f => ⟨rfl, exec_setPollAddr f[3] f[4] f[5] f[6] f[7] s⟩⟩

/-- Settles O3: the answer keeps the flag just written, so the SET_HOST_ADDR that follows is locked after COMMISSION
and takes effect after DECOMMISSION. -/
theorem commissionLocksUntilDecommission : Obligations.CommissionLocksUntilDecommission := by
  refine ⟨rfl, rfl, fun s addr => ⟨exec_commission addr s, exec_decommission addr s, fun a0 a1 a2 a3 b => ⟨?_, ?_⟩⟩⟩
  · have locked : (openAnswer .commission { s with conf.commissioned := true }).conf.commissioned = true := by simp
    exact ⟨_, exec_setHostAddr_locked a0 a1 a2 a3 b locked, by simp⟩
  · have unlocked : (openAnswer .decommission { s with conf.commissioned := false }).conf.commissioned = false := by
      simp
    exact ⟨_, exec_setHostAddr_unlocked a0 a1 a2 a3 b unlocked, by simp⟩

end Sys2Proof.Machine
end

section
/-! The percentage map and the off duty (43_dimming.md R212, R214), and with them the two statements about the map. -/

namespace Sys2Proof.Machine

/-- Every value of the map fits its register (R212). -/
theorem dutyMap_toNat (p : Percent) :
    (dutyMap p).toNat =
      if p.val ≤ 10 then 3300 - 24 * p.val
      else if p.val = 11 then 3085
      else if p.val = 12 then 3084
      else if p.val = 13 then 3080
      else if p.val = 14 then 3075
      else if p.val ≤ 66 then 3070 - 24 * (p.val - 15)
      else if p.val ≤ 98 then 1780 - 24 * (p.val - 67)
      else 0 := by
  simp only [dutyMap, BitVec.toNat_ofNat]
  refine Nat.mod_eq_of_lt ?_
  split_ifs <;> omega

theorem isOff_iff (d : Half) : isOff d = true ↔ 3300 ≤ d.toNat := by
  simp [isOff, Config.offDuty]

/-- Above 0% every segment of the map stays below the off duty (R214). -/
theorem isOff_dutyMap_iff (p : Percent) : isOff (dutyMap p) = true ↔ p.val = 0 := by
  rw [isOff_iff, dutyMap_toNat]
  split_ifs <;> omega

/-- Settles O9: each percentage selects its segment of the map, and the corner cases compare values of the map. -/
theorem dutyMapValues : Obligations.DutyMapValues := by
  refine ⟨fun p => ?_, by decide, by decide, by decide⟩
  rw [dutyMap_toNat]
  split_ifs <;> omega

/-- Settles O10: the off duty is 3300, and the map's last segment is its value 0. -/
theorem onlyZeroPercentIsOff : Obligations.OnlyZeroPercentIsOff :=
  ⟨isOff_iff, isOff_dutyMap_iff, by decide⟩

end Sys2Proof.Machine
end

section
/-! The ramp's registers over every step (43_dimming.md R213 to R220), and with them the statements about the ramp. -/

namespace Sys2Proof.Machine

open Sys2Proof.Claims

/-! One ramp tick. -/

/-- Towards a higher target the duty rises by the rate, clamped (R216). -/
theorem rampStep_up {current target : Half} (rate : Byte) (h : current.toNat ≤ target.toNat) :
    (rampStep current target rate).toNat = min target.toNat (current.toNat + rate.toNat) := by
  have := target.isLt
  unfold rampStep
  split_ifs
  · omega
  · rw [BitVec.toNat_ofNat, Nat.mod_eq_of_lt] <;> omega
  · omega
  · omega

/-- Towards a lower target the duty falls by the rate, clamped (R216). -/
theorem rampStep_down {current target : Half} (rate : Byte) (h : target.toNat ≤ current.toNat) :
    (rampStep current target rate).toNat = max target.toNat (current.toNat - rate.toNat) := by
  have := current.isLt
  unfold rampStep
  split_ifs
  · omega
  · omega
  · omega
  · rw [BitVec.toNat_ofNat, Nat.mod_eq_of_lt] <;> omega

@[simp] theorem Ramp.finish_currentDuty (r : Ramp) : r.finish.currentDuty = r.currentDuty := by
  unfold Ramp.finish
  split <;> rfl

@[simp] theorem Ramp.finish_targetDuty (r : Ramp) : r.finish.targetDuty = r.targetDuty := by
  unfold Ramp.finish
  split <;> rfl

/-- A ramp to off ends with the load off (R217). -/
theorem Ramp.finish_loadOn {r : Ramp} (h : isOff r.targetDuty = true) : r.finish.loadOn = false := by
  simp [Ramp.finish, h]

theorem Ramp.busy_iff (r : Ramp) : r.busy = true ↔ r.currentDuty ≠ r.targetDuty := by
  simp [Ramp.busy]

/-- What a ramp tick can do: nothing at rest; for a busy ramp it counts the pause down, makes one step, or makes the
last step (R216). -/
theorem Ramp.tick_cases (rate : Byte) (pause : Nat) (r : Ramp) :
    let moved := { r with currentDuty := rampStep r.currentDuty r.targetDuty rate, rampDelay := pause }
    (r.busy = false ∧ r.tick rate pause = r) ∨
      (r.busy = true ∧ 0 < r.rampDelay ∧ r.tick rate pause = { r with rampDelay := r.rampDelay - 1 }) ∨
      (r.busy = true ∧ r.rampDelay = 0 ∧ moved.busy = true ∧ r.tick rate pause = moved) ∨
      (r.busy = true ∧ r.rampDelay = 0 ∧ moved.busy = false ∧ r.tick rate pause = moved.finish) := by
  simp only [← Bool.not_eq_true, Ramp.busy_iff, Ramp.tick]
  split_ifs with hrest hpause hlast
  · exact .inl ⟨not_not.mpr hrest, rfl⟩
  · exact .inr (.inl ⟨hrest, hpause, rfl⟩)
  · exact .inr (.inr (.inr ⟨hrest, Nat.eq_zero_of_not_pos hpause, not_not.mpr hlast, rfl⟩))
  · exact .inr (.inr (.inl ⟨hrest, Nat.eq_zero_of_not_pos hpause, hlast, rfl⟩))

/-- A ramp tick leaves the duty or moves it by one ramp step. -/
theorem Ramp.tick_currentDuty (rate : Byte) (pause : Nat) (r : Ramp) :
    (r.tick rate pause).currentDuty = r.currentDuty ∨
      (r.tick rate pause).currentDuty = rampStep r.currentDuty r.targetDuty rate := by
  obtain ⟨-, h⟩ | ⟨-, -, h⟩ | ⟨-, -, -, h⟩ | ⟨-, -, -, h⟩ := r.tick_cases rate pause <;> rw [h]
  · exact .inl rfl
  · exact .inl rfl
  · exact .inr rfl
  · exact .inr (Ramp.finish_currentDuty _)

@[simp] theorem Ramp.tick_targetDuty (rate : Byte) (pause : Nat) (r : Ramp) :
    (r.tick rate pause).targetDuty = r.targetDuty := by
  obtain ⟨-, h⟩ | ⟨-, -, h⟩ | ⟨-, -, -, h⟩ | ⟨-, -, -, h⟩ := r.tick_cases rate pause <;> rw [h]
  exact Ramp.finish_targetDuty _

@[simp] theorem Ramp.setLevel_currentDuty (p : Percent) (r : Ramp) : (r.setLevel p).currentDuty = r.currentDuty := by
  simp only [Ramp.setLevel]
  split <;> rfl

/-! The parts of a step that leave the ramp but for the load. -/

/-- From `s` to `t` the ramp keeps every register but the load. -/
def KeepsFade (s t : State) : Prop :=
  ∃ load, t.ramp = { s.ramp with loadOn := load }

theorem KeepsFade.of_ramp_eq {s t : State} (h : t.ramp = s.ramp) : KeepsFade s t :=
  ⟨s.ramp.loadOn, h⟩

theorem rxByte_ramp (b : Byte) (s : State) : (rxByte b s).ramp = s.ramp := by
  unfold rxByte
  split <;> rfl

theorem motion_keepsFade (s : State) : KeepsFade s (motion s) := by
  simp only [motion, debounceStep]
  split_ifs <;> exact ⟨_, rfl⟩

/-- The minute part of a tick writes the occupancy unit's registers and can switch the load off (R255, R256). -/
theorem minuteTick_eq (s : State) :
    ∃ occ load, minuteTick s = { s with occ := occ, ramp.loadOn := load } ∧ (load = true → s.ramp.loadOn = true) := by
  simp only [minuteTick, minuteEvent]
  split_ifs
  · exact ⟨_, false, rfl, nofun⟩
  · exact ⟨_, _, rfl, id⟩
  · exact ⟨_, _, rfl, id⟩
  · exact ⟨_, _, rfl, id⟩

/-- The assembler part of a tick writes its own registers, the dispatcher's, and the outputs (R126 to R128). -/
theorem assemblerTick_eq (s : State) :
    ∃ asm disp outputs, assemblerTick s = .next { s with asm := asm, disp := disp, outputs := outputs } := by
  obtain ⟨-, h⟩ | ⟨-, -, -, h⟩ | ⟨-, -, h⟩ := assemblerTick_cases s <;> exact ⟨_, _, _, h⟩

/-- A tick ticks the ramp, by the rate and the pause of the configuration, and can switch the load off after it; of the
other fields it writes the assembler's, the dispatcher's, the occupancy unit's, and the outputs (R351). -/
theorem tick_eq (s : State) :
    let ticked := s.ramp.tick s.conf.fadeRate (s.cfg.fadeDelayTicks s.conf.fadeDelay)
    ∃ asm disp occ outputs load,
      tick s = .next
        { s with asm := asm, disp := disp, occ := occ, outputs := outputs, ramp := { ticked with loadOn := load } } ∧
      (load = true → ticked.loadOn = true) := by
  intro ticked
  obtain ⟨asm, disp, outputs, hasm⟩ := assemblerTick_eq s
  obtain ⟨occ, load, hminute, hload⟩ :=
    minuteTick_eq (rampTick { s with asm := asm, disp := disp, outputs := outputs })
  refine ⟨asm, disp, occ.sampleTick (s.cfg.sampleWindowTicks s.conf.sensingPeriod), outputs, load, ?_, hload⟩
  simp only [tick, hasm, occupancyTick, hminute]
  rfl

/-! The instructions. -/

/-- If the answer is a next state, that state has the property. -/
def EveryNext (P : State → Prop) (r : Result) : Prop :=
  ∀ t, r = .next t → P t

theorem EveryNext.next {P : State → Prop} {t : State} (h : P t) : EveryNext P (.next t) := by
  rintro _ ⟨⟩
  exact h

theorem EveryNext.withNumber {P : State → Prop} {hi lo : Byte} {s : State} {act : Percent → State}
    (hact : ∀ v, P (act v)) (hfault : P { s with fault := some .undefParam }) :
    EveryNext P (withNumber hi lo s act) := by
  obtain ⟨v, -, hv⟩ | ⟨-, hv⟩ := withNumber_cases hi lo s act <;> rw [hv]
  · exact .next (hact v)
  · exact .next hfault

theorem EveryNext.withScene {P : State → Prop} {hi lo : Byte} {s : State} {act : Fin 5 → Result}
    (hact : ∀ k, EveryNext P (act k)) (hfault : P { s with fault := some .undefParam }) :
    EveryNext P (withScene hi lo s act) := by
  obtain ⟨k, -, hk⟩ | ⟨-, hk⟩ := withScene_cases hi lo s act <;> rw [hk]
  · exact hact k
  · exact .next hfault

/-- Every instruction but SET_LEVEL and GOTO_SCENE leaves the ramp but for the load (R220). -/
theorem exec_keepsFade {i : Instr} (s : State) (hlevel : i.cmd ≠ some .setLevel) (hscene : i.cmd ≠ some .gotoScene) :
    EveryNext (KeepsFade s) (exec i s) := by
  cases i with
  | setLevel => exact absurd rfl hlevel
  | gotoScene => exact absurd rfl hscene
  | setHostAddr a0 a1 a2 a3 =>
    simp only [exec, execSetHostAddr]
    split <;> exact .next (.of_ramp_eq rfl)
  | relayOn | relayOff => exact .next ⟨_, rfl⟩
  | setSensingFreq | setTimeout | setPowerOnLevel | setFadeRate | setFadeDelay | setGroup | storeLisGroup =>
    exact .withNumber (fun _ => .of_ramp_eq rfl) (.of_ramp_eq rfl)
  | setScene | getScene | clearScene => exact .withScene (fun _ => .next (.of_ramp_eq rfl)) (.of_ramp_eq rfl)
  | resetHostAddr | setPollAddr | getGroup | clearGroup | getLisGroup | clearLisGroup | commission | decommission
  | identify | writeFlash | getSensorData | clearCount | disableSensor | enableSensor | factoryReset | getSettings
  | enableRequestMode | getTimeout | getPercentage | getGroupCount | getHealth | getOwnAddress | cmd38
  | identityFrame => exact .next (.of_ramp_eq rfl)

/-- SET_LEVEL leaves the duty: it sets the level, or raises the fault (R213, R225). -/
theorem execSetLevel_currentDuty (hi lo : Byte) (s : State) :
    EveryNext (fun t => t.ramp.currentDuty = s.ramp.currentDuty) (execSetLevel hi lo s) :=
  .withNumber (fun v => Ramp.setLevel_currentDuty v s.ramp) rfl

/-- GOTO_SCENE leaves the duty: it sets the level of the scene, finds none, or raises the fault (R296). -/
theorem execGotoScene_currentDuty (hi lo : Byte) (s : State) :
    EveryNext (fun t => t.ramp.currentDuty = s.ramp.currentDuty) (execGotoScene hi lo s) := by
  refine .withScene (fun k => ?_) rfl
  obtain ⟨-, hk⟩ | ⟨-, _, hk⟩ | ⟨-, hk⟩ := recallScene_cases s.conf.scenes[k] s <;> rw [hk]
  · exact .next rfl
  · exact .next (Ramp.setLevel_currentDuty _ s.ramp)
  · exact .next rfl

/-- No instruction writes the duty. -/
theorem exec_currentDuty {i : Instr} {s t : State} (h : exec i s = .next t) :
    t.ramp.currentDuty = s.ramp.currentDuty := by
  by_cases hlevel : i.cmd = some .setLevel
  · cases i <;> cases hlevel
    exact execSetLevel_currentDuty _ _ s t h
  · by_cases hscene : i.cmd = some .gotoScene
    · cases i <;> cases hscene
      exact execGotoScene_currentDuty _ _ s t h
    · obtain ⟨_, hramp⟩ := exec_keepsFade s hlevel hscene t h
      rw [hramp]

/-! The step. -/

/-- A `Dispatch` drops its frame, or executes the instruction it decodes to, which is no duplicate (R152). -/
theorem dispatchFrame_next {s t : State} (h : dispatchFrame s = .next t) :
    t = takeFrame s ∨
      ∃ c, addrOk s s.asm.fhold[7] = true ∧ s.disp.dedupe ≠ s.cfg.idOf c ∧
        decodeFrame s.cfg.templates s.asm.fhold = .ok (Instr.ofFrame c s.asm.fhold) ∧
        exec (Instr.ofFrame c s.asm.fhold) (takeFrame s) = .next t := by
  obtain ⟨-, hd⟩ | ⟨-, -, hd⟩ | ⟨_, -, -, -, hd⟩ | ⟨row, haddr, hmatch, hnew, hd⟩ := dispatchFrame_cases s <;>
    rw [h] at hd
  · exact .inl (Host.Outcome.next.inj hd)
  · exact .inl (Host.Outcome.next.inj hd)
  · exact .inl (Host.Outcome.next.inj hd)
  · exact .inr ⟨row.name, haddr, hnew, decodeFrame_eq_ok_iff.mpr ⟨row, hmatch, rfl⟩, hd.symm⟩

/-- What a step does to the ramp: it leaves it but for the load, it is a tick of it, or it executes SET_LEVEL or
GOTO_SCENE and leaves the duty (R218, R220). -/
theorem step_ramp_cases {s t : State} (h : step s = .next t) :
    KeepsFade s t ∨
      (∃ load, t.ramp =
        { s.ramp.tick s.conf.fadeRate (s.cfg.fadeDelayTicks s.conf.fadeDelay) with loadOn := load }) ∨
      ((executes s .setLevel ∨ executes s .gotoScene) ∧ t.ramp.currentDuty = s.ramp.currentDuty) := by
  obtain ⟨hwf, hfault, hrefused, hrun⟩ := step_next h
  unfold runNext at hrun
  generalize he : s.nextEvent = e at hrun
  cases e with
  | rxByte b =>
    cases hrun
    exact .inl (.of_ramp_eq (rxByte_ramp b _))
  | tick =>
    obtain ⟨_, _, _, _, load, htick, -⟩ := tick_eq (takeEvent s)
    cases htick.symm.trans hrun
    exact .inr (.inl ⟨load, rfl⟩)
  | motion =>
    cases hrun
    exact .inl (motion_keepsFade (takeEvent s))
  | identRequest =>
    cases hrun
    exact .inl (.of_ramp_eq rfl)
  | respReady =>
    simp only [perform] at hrun
    split at hrun <;> cases hrun <;> exact .inl (.of_ramp_eq rfl)
  | dispatch =>
    simp only [perform] at hrun
    split at hrun
    next henabled =>
      obtain rfl | ⟨c, haddr, hnew, hdecode, hexec⟩ := dispatchFrame_next hrun
      · exact .inl (.of_ramp_eq rfl)
      · have hexecutes : executes s c :=
          ⟨⟨⟨hwf, hfault, hrefused⟩, he, henabled⟩, haddr, hnew, _, hdecode, Instr.ofFrame_cmd c _⟩
        have hduty := exec_currentDuty hexec
        by_cases hlevel : c = .setLevel
        · exact .inr (.inr ⟨.inl (hlevel ▸ hexecutes), hduty⟩)
        · by_cases hscene : c = .gotoScene
          · exact .inr (.inr ⟨.inr (hscene ▸ hexecutes), hduty⟩)
          · exact .inl (exec_keepsFade (takeFrame (takeEvent s)) (by simp [hlevel]) (by simp [hscene]) t hexec)
    next =>
      cases hrun
      exact .inl (.of_ramp_eq rfl)

/-- A step leaves the duty or moves it by one ramp step. -/
theorem step_currentDuty {s t : State} (h : step s = .next t) :
    t.ramp.currentDuty = s.ramp.currentDuty ∨
      t.ramp.currentDuty = rampStep s.ramp.currentDuty s.ramp.targetDuty s.conf.fadeRate := by
  obtain ⟨_, hramp⟩ | ⟨_, hramp⟩ | ⟨-, hduty⟩ := step_ramp_cases h
  · exact .inl (by rw [hramp])
  · rw [hramp]
    exact Ramp.tick_currentDuty _ _ _
  · exact .inl hduty

/-- Settles O12: a step that moves the duty makes one ramp step, and that is clamped to the target. -/
theorem dutyMovesWithinFadeRate : Obligations.DutyMovesWithinFadeRate := by
  intro s t h
  obtain hduty | hduty := step_currentDuty h <;> rw [hduty]
  · omega
  · constructor
    · intro hup
      rw [rampStep_up _ hup]
      omega
    · intro hdown
      rw [rampStep_down _ hdown]
      omega

/-- A command is executed only when no ramp runs (R150, R215). -/
theorem executes_at_rest {s : State} {c : Cmd} (h : executes s c) : s.ramp.currentDuty = s.ramp.targetDuty := by
  obtain ⟨⟨-, -, henabled⟩, -⟩ := h
  simp only [dispatchEnabled, Bool.and_eq_true, Bool.not_eq_true'] at henabled
  obtain ⟨⟨-, hidle⟩, -⟩ := henabled
  simpa [Ramp.busy] using hidle

/-- Settles O14: neither a tick nor any other command writes the target, and an executed command finds the ramp at
rest. -/
theorem noRampIsRedirected : Obligations.NoRampIsRedirected := by
  intro s t h hchanged
  obtain ⟨_, hramp⟩ | ⟨_, hramp⟩ | ⟨hexecutes, -⟩ := step_ramp_cases h
  · exact absurd (by rw [hramp]) hchanged
  · exact absurd (by rw [hramp, Ramp.tick_targetDuty]) hchanged
  · exact ⟨hexecutes.elim executes_at_rest executes_at_rest, hexecutes⟩

/-! The length of a ramp. -/

theorem gap_eq_zero_iff (r : Ramp) : gap r = 0 ↔ r.currentDuty = r.targetDuty := by
  rw [BitVec.toNat_eq, gap]
  omega

theorem busy_iff_gap_pos (r : Ramp) : r.busy = true ↔ 0 < gap r := by
  rw [Ramp.busy_iff, Nat.pos_iff_ne_zero, ne_eq, ne_eq, gap_eq_zero_iff]

/-- A ramp step takes the rate off the gap, down to 0. -/
theorem gap_rampStep (r : Ramp) (rate : Byte) (pause : Nat) :
    gap { r with currentDuty := rampStep r.currentDuty r.targetDuty rate, rampDelay := pause } =
      gap r - rate.toNat := by
  simp only [gap]
  obtain h | h := Nat.le_total r.currentDuty.toNat r.targetDuty.toNat
  · rw [rampStep_up rate h]
    omega
  · rw [rampStep_down rate h]
    omega

/-- The ticks until a busy ramp ends: the pause under way, one tick for the next step, and a pause and a tick for each
of the steps after it (R218 item 4). -/
def ticksLeft (rate : Byte) (pause : Nat) (r : Ramp) : Nat :=
  r.rampDelay + (1 + ((gap r + rate.toNat - 1) / rate.toNat - 1) * (pause + 1))

theorem ticksLeft_eq_rampTicks {s : State} (h : s.ramp.rampDelay = 0) :
    ticksLeft s.conf.fadeRate (s.cfg.fadeDelayTicks s.conf.fadeDelay) s.ramp = rampTicks s := by
  rw [ticksLeft, rampTicks, h, Nat.zero_add]

/-- A gap within the rate takes one step. -/
theorem ticksLeft_last {rate : Byte} {r : Ramp} (pause : Nat) (hdelay : r.rampDelay = 0) (hgap : 0 < gap r)
    (hlast : gap r ≤ rate.toNat) : ticksLeft rate pause r = 1 := by
  have one : (gap r + rate.toNat - 1) / rate.toNat = 1 := Nat.div_eq_of_lt_le (by omega) (by omega)
  simp [ticksLeft, hdelay, one]

/-- A wider gap takes one step more than the gap that step leaves. -/
theorem ticksLeft_step {rate : Byte} {r r' : Ramp} {pause : Nat} (hrate : 1 ≤ rate.toNat) (hdelay : r.rampDelay = 0)
    (hdelay' : r'.rampDelay = pause) (hgap' : gap r' = gap r - rate.toNat) (hwide : rate.toNat < gap r) :
    ticksLeft rate pause r = ticksLeft rate pause r' + 1 := by
  have hsplit : gap r + rate.toNat - 1 = (gap r' + rate.toNat - 1) + rate.toNat := by omega
  have hleft : 1 ≤ (gap r' + rate.toNat - 1) / rate.toNat := (Nat.one_le_div_iff hrate).mpr (by omega)
  obtain ⟨n, hn⟩ := Nat.exists_eq_add_of_le' hleft
  rw [ticksLeft, ticksLeft, hsplit, Nat.add_div_right _ hrate, hn, hdelay, hdelay', Nat.add_sub_cancel,
    Nat.add_sub_cancel, Nat.succ_mul]
  omega

/-- A tick of a busy ramp is its last, and then ends a ramp to off with the load off, or it leaves the ramp busy with
one tick less to go. -/
theorem Ramp.tick_ticksLeft {rate : Byte} {r : Ramp} (pause : Nat) (hbusy : r.busy = true) (hrate : 1 ≤ rate.toNat) :
    ((r.tick rate pause).currentDuty = r.targetDuty ∧ ticksLeft rate pause r = 1 ∧
        (isOff r.targetDuty = true → (r.tick rate pause).loadOn = false)) ∨
      ((r.tick rate pause).busy = true ∧ ticksLeft rate pause r = ticksLeft rate pause (r.tick rate pause) + 1) := by
  have moved := gap_rampStep r rate pause
  obtain ⟨hrest, h⟩ | ⟨-, hpause, h⟩ | ⟨-, hdelay, hmore, h⟩ | ⟨-, hdelay, hlast, h⟩ := r.tick_cases rate pause <;>
    rw [h]
  · exact absurd hbusy (by simp [hrest])
  · refine .inr ⟨hbusy, ?_⟩
    simp only [ticksLeft, gap]
    omega
  · have hwide := (busy_iff_gap_pos _).mp hmore
    rw [moved] at hwide
    exact .inr ⟨hmore, ticksLeft_step hrate hdelay rfl moved (by omega)⟩
  · have hreached : rampStep r.currentDuty r.targetDuty rate = r.targetDuty := by simpa [Ramp.busy] using hlast
    have hclosed : gap r - rate.toNat = 0 := moved.symm.trans ((gap_eq_zero_iff _).mpr hreached)
    refine .inl ⟨(Ramp.finish_currentDuty _).trans hreached, ?_, fun hoff => Ramp.finish_loadOn hoff⟩
    exact ticksLeft_last pause hdelay ((busy_iff_gap_pos r).mp hbusy) (by omega)

/-- A step that takes a scheduled tick ticks the ramp, can only switch the load off after it, and keeps the
configuration and the rest of the schedule. -/
theorem step_tick {s : State} {rest : List Event} (hready : ready s) (hsched : s.schedule = .tick :: rest) :
    let ticked := s.ramp.tick s.conf.fadeRate (s.cfg.fadeDelayTicks s.conf.fadeDelay)
    ∃ t load, step s = .next t ∧ ready t ∧ t.conf = s.conf ∧ t.cfg = s.cfg ∧ t.schedule = rest ∧
      t.ramp = { ticked with loadOn := load } ∧ (load = true → ticked.loadOn = true) := by
  intro ticked
  obtain ⟨hwf, hfault, hrefused⟩ := hready
  obtain ⟨_, _, _, _, load, htick, hload⟩ := tick_eq { s with schedule := rest }
  have hnext : s.nextEvent = .tick := by simp [State.nextEvent, hsched]
  have hstep : step s = tick { s with schedule := rest } := by
    rw [step_eq_runNext hwf hfault hrefused, runNext, hnext, takeEvent_cons hsched]
    rfl
  exact ⟨_, load, hstep.trans htick, ⟨hwf, hfault, hrefused⟩, rfl, rfl, rfl, rfl, hload⟩

theorem run_succ_of_step {M : Host.Core} {s t : M.State} (h : M.step s = .next t) (k : Nat) :
    M.run (k + 1) s = M.run k t := by
  rw [Host.Core.run, h]

theorem runs_succ {s t : State} (h : step s = .next t) (k : Nat) : runs (k + 1) s = runs k t :=
  run_succ_of_step (M := Sys2Proof.core) h k

/-- A busy ramp reaches its target on the last of its ticks left and on none before it, by induction on their number. -/
theorem ramp_completes (rest : List Event) :
    ∀ (n : Nat) (s : State), ready s → s.ramp.busy = true → 1 ≤ s.conf.fadeRate.toNat →
      ticksLeft s.conf.fadeRate (s.cfg.fadeDelayTicks s.conf.fadeDelay) s.ramp = n →
      s.schedule = List.replicate n .tick ++ rest →
      (∃ t, runs n s = .next t ∧ t.ramp.currentDuty = s.ramp.targetDuty ∧
        (isOff s.ramp.targetDuty = true → t.ramp.loadOn = false)) ∧
      ∀ j, j < n → ∃ t, runs j s = .next t ∧ t.ramp.currentDuty ≠ s.ramp.targetDuty := by
  intro n
  induction n with
  | zero =>
    intro s _ _ _ hleft _
    simp only [ticksLeft] at hleft
    omega
  | succ n ih =>
    intro s hready hbusy hrate hleft hsched
    have now : ∃ t, runs 0 s = .next t ∧ t.ramp.currentDuty ≠ s.ramp.targetDuty :=
      ⟨s, rfl, (Ramp.busy_iff _).mp hbusy⟩
    obtain ⟨u, load, hstep, hready', hconf, hcfg, hsched', hramp, hload⟩ := step_tick hready hsched
    have htarget : u.ramp.targetDuty = s.ramp.targetDuty := by rw [hramp, Ramp.tick_targetDuty]
    obtain ⟨hreached, hlast, hoff⟩ | ⟨hbusy', hleft'⟩ :=
      Ramp.tick_ticksLeft (s.cfg.fadeDelayTicks s.conf.fadeDelay) hbusy hrate
    · obtain rfl : n = 0 := by omega
      refine ⟨⟨u, runs_succ hstep 0, by rw [hramp, hreached], fun h => ?_⟩, fun j hj => ?_⟩
      · rw [hramp]
        exact Bool.eq_false_iff.mpr fun hon => Bool.eq_false_iff.mp (hoff h) (hload hon)
      · obtain rfl : j = 0 := by omega
        exact now
    · have hleftu : ticksLeft u.conf.fadeRate (u.cfg.fadeDelayTicks u.conf.fadeDelay) u.ramp = n := by
        rw [hconf, hcfg, hramp]
        exact Nat.succ.inj (hleft'.symm.trans hleft)
      obtain ⟨hend, hbefore⟩ := ih u hready' (hramp ▸ hbusy') (hconf ▸ hrate) hleftu hsched'
      rw [htarget] at hend hbefore
      refine ⟨runs_succ hstep n ▸ hend, fun j hj => ?_⟩
      cases j with
      | zero => exact now
      | succ j => exact runs_succ hstep j ▸ hbefore j (Nat.lt_of_succ_lt_succ hj)

/-- Settles O13: with no pause under way the ticks left are those R218 names. -/
theorem rampCompletesOnItsTick : Obligations.RampCompletesOnItsTick :=
  fun s rest hready hbusy hdelay hrate hsched =>
    ramp_completes rest _ s hready hbusy hrate (ticksLeft_eq_rampTicks hdelay) hsched

end Sys2Proof.Machine
end

section
/-! The presence count (44_occupancy.md R257, R265, R267), and with it the two statements about it. -/

namespace Sys2Proof.Machine

open Sys2Proof.Claims

/-- GET_SENSOR_DATA only reports, so its next state is its answer (R265). -/
theorem exec_getSensorData (addr : Byte) (s : State) :
    exec (.getSensorData addr) s = .next (answer .getSensorData [s.occ.presentCount] s) :=
  congrArg Host.Outcome.next (executed_eq_answer .getSensorData [s.occ.presentCount] s)

/-- Settles O5: the answer writes the dispatcher's registers alone, so the count it reports stays. -/
theorem getSensorDataReports : Obligations.GetSensorDataReports :=
  ⟨rfl, fun s addr => exec_getSensorData addr s⟩

/-- On the counts a window can leave, 0 to 254, one more window adds 1 modulo 255 (R257). -/
theorem bumpCount_toNat {c : Byte} (h : c.toNat ≤ 254) : (bumpCount c).toNat = (c.toNat + 1) % 255 := by
  have hsucc : (c + 1#8).toNat = c.toNat + 1 := by bv_omega
  have hwraps : c + 1#8 = 255#8 ↔ c.toNat = 254 := by bv_omega
  unfold bumpCount
  split
  next hlast => simp [hwraps.mp hlast]
  next hmore =>
    have hne : c.toNat ≠ 254 := mt hwraps.mpr hmore
    rw [hsucc, Nat.mod_eq_of_lt (by omega)]

/-- `k` windows with motion add `k` modulo 255, by induction on `k`: each finds a count that is again at most 254. -/
theorem bumpCount_iterate_toNat {c : Byte} (h : c.toNat ≤ 254) (k : Nat) :
    (bumpCount^[k] c).toNat = (c.toNat + k) % 255 := by
  induction k with
  | zero => exact (Nat.mod_eq_of_lt (Nat.lt_succ_of_le h)).symm
  | succ k ih =>
    have hcount : (bumpCount^[k] c).toNat ≤ 254 := by omega
    rw [Function.iterate_succ_apply', bumpCount_toNat hcount, ih, Nat.mod_add_mod, Nat.add_assoc]

/-- The end of a sampling window that saw a motion edge (R257, R267). -/
def Occupancy.motionWindow (o : Occupancy) : Occupancy :=
  { o with motionFlag := true }.windowEnd

/-- Such a window acts on the count as `bumpCount`, whatever the other registers hold. -/
theorem presentCount_semiconj : Function.Semiconj Occupancy.presentCount Occupancy.motionWindow bumpCount :=
  fun _ => rfl

/-- Settles O22: the count after `k` such windows is `bumpCount` taken `k` times. -/
theorem presentCountLaw : Obligations.PresentCountLaw := by
  intro o k hcount
  have hbumped : (Occupancy.motionWindow^[k] o).presentCount = bumpCount^[k] o.presentCount :=
    presentCount_semiconj.iterate_right k o
  calc (Occupancy.motionWindow^[k] o).presentCount.toNat
    _ = (bumpCount^[k] o.presentCount).toNat := by rw [hbumped]
    _ = (o.presentCount.toNat + k) % 255 := bumpCount_iterate_toNat hcount k

end Sys2Proof.Machine
end

section
/-! The configuration image (10_state.md R43, 70_reset_and_hazards.md R372, R374): which mirrors a commit followed by a
load gives back, and with it the two statements about the load alone. -/

namespace Sys2Proof

/-! One field of each form. -/

theorem loadByte_erased (dflt : Byte) : loadByte dflt Config.erased = dflt :=
  if_pos rfl

theorem loadByte_of_ne {b : Byte} (dflt : Byte) (h : b ≠ Config.erased) : loadByte dflt b = b :=
  if_neg h

@[simp] theorem loadByte_self (b : Byte) : loadByte b b = b :=
  ite_self b

/-- A second load changes nothing. -/
@[simp] theorem loadByte_loadByte (dflt b : Byte) : loadByte dflt (loadByte dflt b) = loadByte dflt b := by
  by_cases h : b = Config.erased
  · rw [h, loadByte_erased, loadByte_self]
  · rw [loadByte_of_ne dflt h, loadByte_of_ne dflt h]

theorem loadBit_erased (dflt : Bool) : loadBit dflt Config.erased = dflt :=
  if_pos rfl

/-- A flag's byte is never erased, and reads as the flag (R44). -/
@[simp] theorem loadBit_bitByte (dflt x : Bool) : loadBit dflt (bitByte x) = x := by
  cases x <;> rfl

theorem loadAddr_erased (dflt : Addr4) :
    loadAddr dflt #v[Config.erased, Config.erased, Config.erased, Config.erased] = dflt :=
  if_pos rfl

/-- One written character makes the address a written one (R372). -/
theorem loadAddr_of_ne {a0 : Byte} (dflt : Addr4) (a1 a2 a3 : Byte) (h : a0 ≠ Config.erased) :
    loadAddr dflt #v[a0, a1, a2, a3] = #v[a0, a1, a2, a3] := by
  refine if_neg fun herased => h ?_
  simpa using congrArg (·[0]) herased

@[simp] theorem loadAddr_self (a : Addr4) : loadAddr a a = a :=
  ite_self a

@[simp] theorem loadAddr_loadAddr (dflt a : Addr4) : loadAddr dflt (loadAddr dflt a) = loadAddr dflt a := by
  by_cases h : a = #v[Config.erased, Config.erased, Config.erased, Config.erased]
  · rw [h, loadAddr_erased, loadAddr_self]
  · simp only [loadAddr, if_neg h]

theorem highByte_append (high low : Byte) : highByte (high ++ low) = high :=
  BitVec.extractLsb'_append_eq_left

theorem lowByte_append (high low : Byte) : lowByte (high ++ low) = low :=
  BitVec.extractLsb'_append_eq_right

/-- The two bytes of the fade delay are all of it (R43). -/
theorem highByte_append_lowByte (h : Half) : highByte h ++ lowByte h = h :=
  (BitVec.extractLsb'_append_extractLsb'_eq_extractLsb' (start₁ := 0) (len₁ := 8) rfl).trans
    BitVec.extractLsb'_eq_self

theorem loadHalf_erased (dflt : Half) : loadHalf dflt Config.erased Config.erased = dflt :=
  if_pos ⟨rfl, rfl⟩

/-- A fade delay whose high byte is written is a written one (R372). -/
theorem loadHalf_of_high_ne {h : Half} (dflt : Half) (hne : highByte h ≠ Config.erased) :
    loadHalf dflt (highByte h) (lowByte h) = h := by
  rw [loadHalf, if_neg fun herased => hne herased.1, highByte_append_lowByte]

@[simp] theorem loadHalf_self (h : Half) : loadHalf h (highByte h) (lowByte h) = h := by
  rw [loadHalf, highByte_append_lowByte, ite_self]

@[simp] theorem loadHalf_loadHalf (dflt : Half) (high low : Byte) :
    loadHalf dflt (highByte (loadHalf dflt high low)) (lowByte (loadHalf dflt high low)) = loadHalf dflt high low := by
  by_cases h : high = Config.erased ∧ low = Config.erased
  · rw [h.1, h.2, loadHalf_erased, loadHalf_self]
  · simp only [loadHalf, if_neg h, highByte_append, lowByte_append]

/-! Five slots. -/

/-- Each slot is loaded as a field of its own (R372). -/
@[simp] theorem loadSlots_getElem (dflt s : Slots5) {k : Nat} (hk : k < 5) :
    (loadSlots dflt s)[k] = loadByte dflt[k] s[k] := by
  match k, hk with
  | 0, _ | 1, _ | 2, _ | 3, _ | 4, _ => rfl

theorem loadSlots_erased (dflt : Slots5) :
    loadSlots dflt #v[Config.erased, Config.erased, Config.erased, Config.erased, Config.erased] = dflt := by
  ext k hk
  rw [loadSlots_getElem]
  match k, hk with
  | 0, _ | 1, _ | 2, _ | 3, _ | 4, _ => rfl

theorem loadSlots_eq_self_iff (dflt s : Slots5) :
    loadSlots dflt s = s ↔ ∀ (k : Nat) (hk : k < 5), loadByte dflt[k] s[k] = s[k] := by
  simp only [Vector.ext_iff, loadSlots_getElem]

@[simp] theorem loadSlots_self (s : Slots5) : loadSlots s s = s := by
  simp [loadSlots_eq_self_iff]

@[simp] theorem loadSlots_loadSlots (dflt s : Slots5) : loadSlots dflt (loadSlots dflt s) = loadSlots dflt s := by
  simp [loadSlots_eq_self_iff]

/-- Writing a byte that is not the erased one into a slot keeps it that the slots load back. -/
theorem loadSlots_setIfInBounds {dflt s : Slots5} {v : Byte} (h : loadSlots dflt s = s) (hv : v ≠ Config.erased)
    (k : Nat) : loadSlots dflt (s.setIfInBounds k v) = s.setIfInBounds k v := by
  rw [loadSlots_eq_self_iff] at h ⊢
  intro j hj
  rw [Vector.getElem_setIfInBounds hj]
  split
  · exact loadByte_of_ne _ hv
  · exact h j hj

theorem loadSlots_set {dflt s : Slots5} {v : Byte} (h : loadSlots dflt s = s) (hv : v ≠ Config.erased) (k : Fin 5) :
    loadSlots dflt (s.set k v) = s.set k v := by
  have inBounds : s.set k v = s.setIfInBounds k v :=
    Vector.ext fun j hj => by rw [Vector.getElem_set, Vector.getElem_setIfInBounds hj]
  rw [inBounds]
  exact loadSlots_setIfInBounds h hv k

/-! The whole mirror. -/

/-- Each field of the mirror `c`, written as its bytes and loaded under the defaults `dflt`, is itself again. A flag is
so under any default and has no clause. -/
structure Reloads (dflt c : Persistent) : Prop where
  sensingPeriod : loadByte dflt.sensingPeriod c.sensingPeriod = c.sensingPeriod
  maxTimeout : loadByte dflt.maxTimeout c.maxTimeout = c.maxTimeout
  hostAddr : loadAddr dflt.hostAddr c.hostAddr = c.hostAddr
  pollAddr : loadAddr dflt.pollAddr c.pollAddr = c.pollAddr
  fadeRate : loadByte dflt.fadeRate c.fadeRate = c.fadeRate
  fadeDelay : loadHalf dflt.fadeDelay (highByte c.fadeDelay) (lowByte c.fadeDelay) = c.fadeDelay
  powerOnLevel : loadByte dflt.powerOnLevel c.powerOnLevel = c.powerOnLevel
  groups : loadSlots dflt.groups c.groups = c.groups
  scenes : loadSlots dflt.scenes c.scenes = c.scenes
  lisGroup : loadByte dflt.lisGroup c.lisGroup = c.lisGroup

/-- The load of a mirror's own image, field by field: the offsets of the image and of the load agree (R43). -/
theorem loadImage_imageOf (dflt c : Persistent) :
    loadImage dflt (imageOf c) =
      { sensingPeriod := loadByte dflt.sensingPeriod c.sensingPeriod
        maxTimeout := loadByte dflt.maxTimeout c.maxTimeout
        hostAddr := loadAddr dflt.hostAddr c.hostAddr
        pollAddr := loadAddr dflt.pollAddr c.pollAddr
        commissioned := c.commissioned
        fadeRate := loadByte dflt.fadeRate c.fadeRate
        fadeDelay := loadHalf dflt.fadeDelay (highByte c.fadeDelay) (lowByte c.fadeDelay)
        powerOnLevel := loadByte dflt.powerOnLevel c.powerOnLevel
        groups := loadSlots dflt.groups c.groups
        scenes := loadSlots dflt.scenes c.scenes
        lisMode := c.lisMode
        lisGroup := loadByte dflt.lisGroup c.lisGroup } := by
  have addr_eta (a : Addr4) : #v[a[0], a[1], a[2], a[3]] = a := by
    ext k hk
    match k, hk with
    | 0, _ | 1, _ | 2, _ | 3, _ => rfl
  rw [← addr_eta c.hostAddr, ← addr_eta c.pollAddr, ← loadBit_bitByte dflt.commissioned c.commissioned,
    ← loadBit_bitByte dflt.lisMode c.lisMode]
  rfl

theorem loadImage_imageOf_eq_self_iff (dflt c : Persistent) : loadImage dflt (imageOf c) = c ↔ Reloads dflt c := by
  rw [loadImage_imageOf]
  constructor
  · intro h
    cases c
    injection h
    constructor <;> assumption
  · rintro ⟨⟩
    simp only [*]

/-- The defaults load back under themselves. -/
theorem Reloads.self (d : Persistent) : Reloads d d := by
  constructor <;> simp

/-- A loaded mirror loads back: each field is its default or is written. -/
theorem Reloads.of_loadImage (dflt : Persistent) (img : Image) : Reloads dflt (loadImage dflt img) := by
  constructor <;> simp [loadImage]

/-- An erased store loads as the defaults (R374 item 1). -/
theorem loadImage_erased (d : Persistent) : loadImage d (Vector.replicate 27 Config.erased) = d := by
  simp [loadImage, loadByte_erased, loadBit_erased, loadAddr_erased, loadHalf_erased, loadSlots_erased]

end Sys2Proof

namespace Sys2Proof.Machine

theorem imageLoadsBack_iff (s : State) : s.imageLoadsBack ↔ Reloads s.cfg.defaults s.conf :=
  loadImage_imageOf_eq_self_iff s.cfg.defaults s.conf

/-- Settles O56: every field of an erased store takes its default, and a default is written as itself or is erased. -/
theorem defaultsLoadBack : Obligations.DefaultsLoadBack :=
  fun d => ⟨loadImage_erased d, (loadImage_imageOf_eq_self_iff d d).mpr (.self d)⟩

/-- Settles O57: the load is idempotent in each field. -/
theorem resetImageLoadsBack : Obligations.ResetImageLoadsBack :=
  fun p img => (imageLoadsBack_iff _).mpr (.of_loadImage p.defaults img)

end Sys2Proof.Machine
end

section
/-! The configuration over every step (20_memory.md R85, 60_exceptions.md R360): an executed command alone writes it.
With that, the statements about the hang at fade rate 0 (70_reset_and_hazards.md R383) and about a commit followed by a
load (R374). -/

namespace Sys2Proof.Machine

open Sys2Proof.Claims

/-! The parts of a step that leave the configuration. -/

theorem rxByte_conf (b : Byte) (s : State) : (rxByte b s).conf = s.conf := by
  unfold rxByte
  split <;> rfl

theorem motion_conf (s : State) : (motion s).conf = s.conf := by
  simp only [motion, debounceStep]
  split_ifs <;> rfl

/-- A step leaves the configuration, or executes the instruction its held frame decodes to (R85). -/
theorem step_conf_cases {s t : State} (h : step s = .next t) :
    t.conf = s.conf ∨
      ∃ c i, executes s c ∧ decodeFrame s.cfg.templates s.asm.fhold = .ok i ∧
        exec i (takeFrame (takeEvent s)) = .next t := by
  obtain ⟨hwf, hfault, hrefused, hrun⟩ := step_next h
  unfold runNext at hrun
  generalize he : s.nextEvent = e at hrun
  cases e with
  | rxByte b =>
    cases hrun
    exact .inl (rxByte_conf b _)
  | tick =>
    obtain ⟨_, _, _, _, _, htick, -⟩ := tick_eq (takeEvent s)
    cases htick.symm.trans hrun
    exact .inl rfl
  | motion =>
    cases hrun
    exact .inl (motion_conf _)
  | identRequest =>
    cases hrun
    exact .inl rfl
  | respReady =>
    simp only [perform] at hrun
    split at hrun <;> cases hrun <;> exact .inl rfl
  | dispatch =>
    simp only [perform] at hrun
    split at hrun
    next henabled =>
      obtain rfl | ⟨c, haddr, hnew, hdecode, hexec⟩ := dispatchFrame_next hrun
      · exact .inl rfl
      · have hexecutes : executes s c :=
          ⟨⟨⟨hwf, hfault, hrefused⟩, he, henabled⟩, haddr, hnew, _, hdecode, Instr.ofFrame_cmd c _⟩
        exact .inr ⟨c, _, hexecutes, hdecode, hexec⟩
    next =>
      cases hrun
      exact .inl rfl

/-! The hang at fade rate 0. -/

theorem rampHang_iff (s : State) :
    s.rampHang = true ↔ s.ramp.currentDuty ≠ s.ramp.targetDuty ∧ s.conf.fadeRate = 0#8 := by
  rw [State.rampHang, Bool.and_eq_true, Ramp.busy_iff, beq_iff_eq]

/-- At fade rate 0 a ramp step leaves the duty (R219). -/
theorem rampStep_zero (current target : Half) : rampStep current target 0#8 = current := by
  have hzero : (0#8).toNat = 0 := rfl
  apply BitVec.eq_of_toNat_eq
  obtain hup | hdown := Nat.le_total current.toNat target.toNat
  · rw [rampStep_up _ hup]
    omega
  · rw [rampStep_down _ hdown]
    omega

/-- With a ramp pending no command is executed (R150), so a step leaves the configuration. -/
theorem step_conf_of_busy {s t : State} (hbusy : s.ramp.currentDuty ≠ s.ramp.targetDuty) (h : step s = .next t) :
    t.conf = s.conf := by
  obtain hconf | ⟨_, _, hexecutes, -⟩ := step_conf_cases h
  · exact hconf
  · exact absurd (executes_at_rest hexecutes) hbusy

/-- With a ramp pending a step leaves its target (R220). -/
theorem step_targetDuty_of_busy {s t : State} (hbusy : s.ramp.currentDuty ≠ s.ramp.targetDuty)
    (h : step s = .next t) : t.ramp.targetDuty = s.ramp.targetDuty :=
  not_not.mp fun hchanged => hbusy (noRampIsRedirected s t h hchanged).1

theorem step_currentDuty_of_zero_rate {s t : State} (hrate : s.conf.fadeRate = 0#8) (h : step s = .next t) :
    t.ramp.currentDuty = s.ramp.currentDuty := by
  obtain hduty | hduty := step_currentDuty h
  · exact hduty
  · rw [hduty, hrate, rampStep_zero]

/-- Settles O15: the pending ramp keeps every command from execution, and its own step of length 0 never ends it. -/
theorem zeroFadeRateHangs : Obligations.ZeroFadeRateHangs := by
  intro s t hhang h
  obtain ⟨hbusy, hrate⟩ := (rampHang_iff s).mp hhang
  have hconf := step_conf_of_busy hbusy h
  have hduty := step_currentDuty_of_zero_rate hrate h
  have htarget := step_targetDuty_of_busy hbusy h
  refine ⟨(rampHang_iff t).mpr ?_, hduty, htarget, hconf⟩
  rw [hduty, htarget, hconf]
  exact ⟨hbusy, hrate⟩

/-! What the commands write loads back. -/

/-- A decimal value is never the erased byte (R97). -/
theorem percentByte_ne_erased (v : Percent) : percentByte v ≠ Config.erased := by
  have hv := v.isLt
  simp only [percentByte, Config.erased, ne_eq, BitVec.toNat_eq, BitVec.toNat_ofNat]
  omega

theorem highByte_setWidth (b : Byte) : highByte (b.setWidth 16) = 0#8 := by
  have hb := b.isLt
  apply BitVec.eq_of_toNat_eq
  simp only [highByte, BitVec.extractLsb'_toNat, BitVec.toNat_setWidth, Nat.shiftRight_eq_div_pow, BitVec.toNat_ofNat]
  omega

/-- An accepted byte is no erased one: 0xFF is filtered (R92). -/
theorem ne_erased_of_not_filtered {b : Byte} (h : isFiltered b = false) : b ≠ Config.erased := by
  rintro rfl
  cases h

/-- Under a well-formed configuration the group slots' default is five empty ones (R45, R376). -/
theorem defaults_groups {p : Params} (h : p.wf = true) : p.defaults.groups = noGroups := by
  simp only [Params.wf, Persistent.defaultsOk, Bool.and_eq_true, beq_iff_eq] at h
  obtain ⟨-, ⟨hgroups, -⟩, -⟩ := h
  exact hgroups

theorem defaults_lisGroup {p : Params} (h : p.wf = true) : p.defaults.lisGroup = 0xFF#8 := by
  simp only [Params.wf, Persistent.defaultsOk, Bool.and_eq_true, beq_iff_eq] at h
  obtain ⟨-, -, hlisGroup⟩ := h
  exact hlisGroup

/-- Every instruction the wire can carry keeps it that the configuration loads back: what it writes is no erased byte or
is the field's default. -/
theorem exec_reloads {i : Instr} {s : State} (hwf : s.cfg.wf = true) (hactive : s.ramp.activePct ≠ Config.erased)
    (hi : i.wf = true) (h : Reloads s.cfg.defaults s.conf) :
    EveryNext (fun t => Reloads s.cfg.defaults t.conf) (exec i s) := by
  have number (dflt : Byte) (v : Percent) : loadByte dflt (percentByte v) = percentByte v :=
    loadByte_of_ne dflt (percentByte_ne_erased v)
  have sent := (Instr.wf_iff i).mp hi
  cases i with
  | setHostAddr a0 a1 a2 a3 =>
    have ha0 : a0 ≠ Config.erased := ne_erased_of_not_filtered (sent a0 (by simp [Instr.bytes]))
    simp only [exec, execSetHostAddr]
    split
    · exact .next h
    · exact .next { h with hostAddr := loadAddr_of_ne _ _ _ _ ha0 }
  | setPollAddr a0 a1 a2 a3 =>
    have ha0 : a0 ≠ Config.erased := ne_erased_of_not_filtered (sent a0 (by simp [Instr.bytes]))
    exact .next { h with pollAddr := loadAddr_of_ne _ _ _ _ ha0 }
  | resetHostAddr => exact .next { h with hostAddr := loadAddr_self _ }
  | commission | decommission => exact .next { h with }
  | setSensingFreq => exact .withNumber (fun v => { h with sensingPeriod := number _ v }) h
  | setTimeout => exact .withNumber (fun v => { h with maxTimeout := number _ v }) h
  | setPowerOnLevel => exact .withNumber (fun v => { h with powerOnLevel := number _ v }) h
  | setFadeRate => exact .withNumber (fun v => { h with fadeRate := number _ v }) h
  | setFadeDelay =>
    have written (v : Percent) : highByte ((percentByte v).setWidth 16) ≠ Config.erased := by
      rw [highByte_setWidth]
      decide
    exact .withNumber (fun v => { h with fadeDelay := loadHalf_of_high_ne _ (written v) }) h
  | setGroup =>
    exact .withNumber (fun v => { h with groups := loadSlots_setIfInBounds h.groups (percentByte_ne_erased v) _ }) h
  | clearGroup => exact .next { h with groups := defaults_groups hwf ▸ loadSlots_self noGroups }
  | setScene => exact .withScene (fun k => .next { h with scenes := loadSlots_set h.scenes hactive k }) h
  | clearScene =>
    have unset : Config.sceneUnset ≠ Config.erased := by decide
    exact .withScene (fun k => .next { h with scenes := loadSlots_set h.scenes unset k }) h
  | storeLisGroup => exact .withNumber (fun v => { h with lisGroup := number _ v }) h
  | clearLisGroup => exact .next { h with lisGroup := defaults_lisGroup hwf ▸ loadByte_self 0xFF#8 }
  | factoryReset => exact .next (.self _)
  | setLevel => exact .withNumber (fun _ => h) h
  | gotoScene hi lo =>
    refine .withScene (fun k => ?_) h
    obtain ⟨-, hk⟩ | ⟨-, _, hk⟩ | ⟨-, hk⟩ := recallScene_cases s.conf.scenes[k] s <;> rw [hk] <;>
      exact .next h
  | getScene => exact .withScene (fun _ => .next h) h
  | getGroup | getLisGroup | identify | writeFlash | getSensorData | clearCount | relayOn | relayOff | disableSensor
  | enableSensor | getSettings | enableRequestMode | getTimeout | getPercentage | getGroupCount | getHealth
  | getOwnAddress | cmd38 | identityFrame => exact .next h

/-- A command is executed only from a held frame (R150). -/
theorem executes_framePending {s : State} {c : Cmd} (h : executes s c) : s.asm.framePending = true := by
  obtain ⟨⟨-, -, henabled⟩, -⟩ := h
  simp only [dispatchEnabled, Bool.and_eq_true] at henabled
  obtain ⟨⟨⟨hpending, -⟩, -⟩, -⟩ := henabled
  exact hpending

/-- Settles O58: a step leaves the parameters and, unless it executes a held frame, the configuration; that frame's
bytes are accepted ones, and its instruction keeps what loads back. -/
theorem stepKeepsImageLoadsBack : Obligations.StepKeepsImageLoadsBack := by
  intro s t hinv hloads h
  rw [imageLoadsBack_iff] at hloads ⊢
  obtain ⟨hcfg, -⟩ := parametersNeverWritten s t h
  rw [hcfg]
  obtain hconf | ⟨c, i, hexecutes, hdecode, hexec⟩ := step_conf_cases h
  · rw [hconf]
    exact hloads
  · have hi : i.wf = true := heldFramesAreWellFormed s i hinv (executes_framePending hexecutes) hdecode
    have hactive : s.ramp.activePct ≠ Config.erased := fun herased =>
      absurd (herased ▸ hinv.active_le) (by decide)
    exact exec_reloads (s := takeFrame (takeEvent s)) hinv.cfg_wf hactive hi hloads t hexec

end Sys2Proof.Machine
end

section
/-! A table that passes the check (30_encoding.md R101, R102), and the encoder's frame under it (R93, R96, R108). With
that, the statements about command ids and about the way from an instruction to its bytes and back. -/

namespace Sys2Proof

/-! The rows of a checked table. -/

/-- The ids of a checked table are its positions 0..37 (R102 check 1). -/
theorem tableOk_ids {ts : List Template} (h : tableOk ts = true) : ts.map (·.id) = List.range 38 := by
  simp only [tableOk, Bool.and_eq_true, beq_iff_eq] at h
  obtain ⟨⟨⟨hids, -⟩, -⟩, -⟩ := h
  exact hids

/-- Each row of a checked table passes the checks on one row (R102 checks 2 to 4). -/
theorem tableOk_row {ts : List Template} (h : tableOk ts = true) {t : Template} (ht : t ∈ ts) :
    t.pre.length = t.P ∧ t.kind.allows t.P = true := by
  simp only [tableOk, Bool.and_eq_true, List.all_eq_true] at h
  obtain ⟨⟨⟨-, hrows⟩, -⟩, -⟩ := h
  have hrow := hrows t ht
  simp only [Template.ok, Bool.and_eq_true, beq_iff_eq] at hrow
  obtain ⟨⟨⟨⟨hlength, -⟩, -⟩, hallows⟩, -⟩ := hrow
  exact ⟨hlength, hallows⟩

/-- A checked table holds each command name once (R102 check 5). -/
theorem tableOk_countP {ts : List Template} (h : tableOk ts = true) (c : Cmd) :
    ts.countP (fun t => t.name == c) = 1 := by
  simp only [tableOk, Bool.and_eq_true, List.all_eq_true, beq_iff_eq] at h
  obtain ⟨⟨-, hnames⟩, -⟩ := h
  exact hnames c (by cases c <;> decide)

/-- A row stands at the position its id says, which is below 38 (R101). -/
theorem getElem?_id {ts : List Template} (h : tableOk ts = true) {t : Template} (ht : t ∈ ts) :
    ts[t.id]? = some t ∧ t.id < 38 := by
  obtain ⟨k, hk, rfl⟩ := List.getElem_of_mem ht
  have hlength : ts.length = 38 := by simpa using congrArg List.length (tableOk_ids h)
  have hid : ts[k].id = k := by simpa [hk, hlength ▸ hk] using congrArg (·[k]?) (tableOk_ids h)
  rw [hid]
  exact ⟨List.getElem?_eq_getElem hk, hlength ▸ hk⟩

/-- A checked table has no two rows with one id. -/
theorem eq_of_id_eq {ts : List Template} (h : tableOk ts = true) {t u : Template} (ht : t ∈ ts) (hu : u ∈ ts)
    (hid : t.id = u.id) : t = u :=
  Option.some.inj ((getElem?_id h ht).1.symm.trans (hid ▸ (getElem?_id h hu).1))

/-- A checked table has no two rows with one name. -/
theorem eq_of_name_eq {ts : List Template} (h : tableOk ts = true) {t u : Template} (ht : t ∈ ts) (hu : u ∈ ts)
    (hname : t.name = u.name) : t = u := by
  have hone := tableOk_countP h u.name
  rw [List.countP_eq_length_filter] at hone
  obtain ⟨row, hrow⟩ := List.length_eq_one_iff.mp hone
  have only {v : Template} (hv : v ∈ ts) (hvu : v.name = u.name) : v = row := by
    have hmem : v ∈ ts.filter (fun w => w.name == u.name) := List.mem_filter.mpr ⟨hv, by simp [hvu]⟩
    simpa [hrow] using hmem
  exact (only ht hname).trans (only hu rfl).symm

/-- A command's name is found in a checked table, in the one row that bears it. -/
theorem find?_name {ts : List Template} (h : tableOk ts = true) (c : Cmd) :
    ∃ t ∈ ts, t.name = c ∧ ts.find? (fun u => u.name == c) = some t := by
  obtain ⟨t, hfind⟩ := Laws.EncodedLength.find_name h c
  exact ⟨t, List.mem_of_find?_eq_some hfind, by simpa using List.find?_some hfind, hfind⟩

/-- The id of a command in a checked table is that of its row (R101). -/
theorem idOf_toNat {ts : List Template} (h : tableOk ts = true) {t : Template} (ht : t ∈ ts) :
    (idOf ts t.name).toNat = t.id := by
  obtain ⟨u, hu, hname, hfind⟩ := find?_name h t.name
  obtain rfl := eq_of_name_eq h hu ht hname
  have hid := (getElem?_id h ht).2
  rw [idOf, hfind, BitVec.toNat_ofNat, Nat.mod_eq_of_lt (by omega)]

theorem idOf_lt {ts : List Template} (h : tableOk ts = true) (c : Cmd) : (idOf ts c).toNat < 38 := by
  obtain ⟨t, ht, rfl, -⟩ := find?_name h c
  rw [idOf_toNat h ht]
  exact (getElem?_id h ht).2

/-! The encoder's frame. -/

/-- Where a row of this kind has its parameter bytes, or the address if it has none (R96). -/
def Kind.paramOffset : Kind → Nat
  | .lit => 7
  | .hex4 => 3
  | .num2 => 5
  | .par1 => 6

/-- No kind lets the prefix reach into the parameter bytes (R96, R102 check 3). -/
theorem Kind.le_paramOffset {k : Kind} {n : Nat} (h : k.allows n = true) : n ≤ k.paramOffset := by
  cases k <;> simp only [Kind.allows, Bool.or_eq_true, beq_iff_eq] at h <;> simp only [Kind.paramOffset] <;> omega

theorem Kind.paramOffset_le (k : Kind) : k.paramOffset ≤ 7 := by
  cases k <;> decide

/-- A row whose prefix has its stated length accepts the payloads that begin with the prefix (R156). -/
theorem Template.accepts_iff_prefix {t : Template} (h : t.pre.length = t.P) (p : List Byte) :
    t.accepts p = true ↔ t.pre <+: p := by
  rw [Template.accepts_iff, List.prefix_iff_getElem?, ← h]
  refine forall₂_congr fun j hj => ?_
  rw [List.getElem?_eq_getElem hj]

/-- The payload of an encoded frame: the prefix byte where the prefix has one, else the parameter byte (R96). -/
theorem payload_encodeFrame (t : Template) (i : Instr) :
    payload (encodeFrame t i) = (List.range 7).map fun j => (t.pre[j]?).getD (i.paramByte j) :=
  rfl

theorem pre_prefix_payload_encodeFrame {t : Template} (i : Instr) (h : t.pre.length ≤ 7) :
    t.pre <+: payload (encodeFrame t i) := by
  rw [payload_encodeFrame, List.prefix_iff_getElem?]
  intro j hj
  have hj7 : j < 7 := by omega
  simp [hj, hj7]

/-- Past the prefix an encoded frame has the instruction's parameter bytes. -/
theorem encodeFrame_getElem {t : Template} (i : Instr) {j : Nat} (hj : j < 7) (hpast : t.pre.length ≤ j) :
    (encodeFrame t i)[j] = i.paramByte j := by
  have hnone : t.pre[j]? = none := List.getElem?_eq_none hpast
  interval_cases j <;> simp [encodeFrame, hnone]

theorem encodeFrame_last (t : Template) (i : Instr) : (encodeFrame t i)[7] = i.lastByte :=
  rfl

/-- A frame with the instruction's parameter bytes and address is read as the instruction. -/
theorem Instr.ofFrame_eq {i : Instr} {c : Cmd} {f : Frame8} (hcmd : i.cmd = some c)
    (hparam : ∀ (j : Nat) (hj : j < 7), c.usualKind.paramOffset ≤ j → f[j] = i.paramByte j)
    (hlast : f[7] = i.lastByte) : Instr.ofFrame c f = i := by
  cases i with
  | identityFrame => cases hcmd
  | setHostAddr | setPollAddr =>
    cases hcmd
    have h3 := hparam 3 (by decide) (by decide)
    have h4 := hparam 4 (by decide) (by decide)
    have h5 := hparam 5 (by decide) (by decide)
    have h6 := hparam 6 (by decide) (by decide)
    simp only [Instr.ofFrame, h3, h4, h5, h6, hlast]
    rfl
  | setSensingFreq | setTimeout | setPowerOnLevel | setLevel | setFadeRate | setFadeDelay | setGroup | setScene
  | getScene | gotoScene | clearScene | storeLisGroup =>
    cases hcmd
    have h5 := hparam 5 (by decide) (by decide)
    have h6 := hparam 6 (by decide) (by decide)
    simp only [Instr.ofFrame, h5, h6, hlast]
    rfl
  | resetHostAddr | getGroup | clearGroup | getLisGroup | clearLisGroup | commission | decommission | identify
  | writeFlash | getSensorData | clearCount | relayOn | relayOff | disableSensor | enableSensor | factoryReset
  | getSettings | enableRequestMode | getTimeout | getPercentage | getGroupCount | getHealth | getOwnAddress
  | cmd38 =>
    cases hcmd
    simp only [Instr.ofFrame, hlast]
    rfl

/-! Matching an encoded frame. -/

/-- Where no prefix is a prefix of another, a payload is accepted by one row at most. -/
theorem eq_of_accepts {ts : List Template} (h : tableOk ts = true) (hfree : prefixFree ts = true) {p : List Byte}
    {t u : Template} (ht : t ∈ ts) (hu : u ∈ ts) (htp : t.accepts p = true) (hup : u.accepts p = true) : t = u := by
  rw [Template.accepts_iff_prefix (tableOk_row h ht).1] at htp
  rw [Template.accepts_iff_prefix (tableOk_row h hu).1] at hup
  simp only [prefixFree, List.all_eq_true, Bool.or_eq_true, beq_iff_eq, Bool.not_eq_true', ← Bool.not_eq_true,
    List.isPrefixOf_iff_prefix] at hfree
  obtain htu | hut := List.prefix_or_prefix_of_prefix htp hup
  · exact eq_of_id_eq h ht hu ((hfree t ht u hu).resolve_right (not_not.mpr htu))
  · exact (eq_of_id_eq h hu ht ((hfree u hu t ht).resolve_right (not_not.mpr hut))).symm

/-- In such a table the row that accepts a payload is the one that matches it. -/
theorem matchTemplate_eq_some {ts : List Template} (h : tableOk ts = true) (hfree : prefixFree ts = true)
    {p : List Byte} {t : Template} (ht : t ∈ ts) (htp : t.accepts p = true) : matchTemplate ts p = some t := by
  cases hmatch : matchTemplate ts p with
  | none => exact absurd htp (List.find?_eq_none.mp hmatch t ht)
  | some u =>
    obtain ⟨hu, hup⟩ := matchTemplate_some hmatch
    rw [eq_of_accepts h hfree ht hu htp hup]

/-- Eight bytes decode as the frame they are. -/
theorem decode_toList (ts : List Template) (f : Frame8) : decode ts f.toList = decodeFrame ts f := by
  have eta : #v[f[0], f[1], f[2], f[3], f[4], f[5], f[6], f[7]] = f := by
    rw [← Vector.toList_inj, toList_frame f]
    rfl
  rw [toList_frame, decode, eta]

/-- A command's frame decodes to the command: its own row matches it, and the row's kind leaves the parameter bytes
outside the prefix. -/
theorem decode_encode_of_cmd {ts : List Template} {i : Instr} {c : Cmd} (h : tableOk ts = true)
    (hkinds : usualKinds ts = true) (hfree : prefixFree ts = true) (hcmd : i.cmd = some c) :
    decode ts (encode ts i) = .ok i := by
  obtain ⟨t, ht, rfl, hfind⟩ := find?_name h c
  obtain ⟨hlength, hallows⟩ := tableOk_row h ht
  have hkind : t.kind = t.name.usualKind := by
    simpa using List.all_eq_true.mp hkinds t ht
  have hoffset : t.pre.length ≤ t.name.usualKind.paramOffset := by
    rw [hlength, ← hkind]
    exact Kind.le_paramOffset hallows
  have hencode : encode ts i = (encodeFrame t i).toList := by
    simp only [encode, hcmd, hfind]
  have haccepts : t.accepts (payload (encodeFrame t i)) = true :=
    (Template.accepts_iff_prefix hlength _).mpr
      (pre_prefix_payload_encodeFrame i (hoffset.trans (Kind.paramOffset_le _)))
  rw [hencode, decode_toList, decodeFrame_eq_ok_iff]
  exact ⟨t, matchTemplate_eq_some h hfree ht haccepts,
    Instr.ofFrame_eq hcmd (fun j hj hpast => encodeFrame_getElem i hj (hoffset.trans hpast)) (encodeFrame_last t i)⟩

end Sys2Proof

namespace Sys2Proof.Machine

/-- Settles O52: a command goes through its row's frame, an identity frame is its four bytes. -/
theorem decodeEncodeAgree : Obligations.DecodeEncodeAgree := by
  intro ts i h hkinds hfree
  cases hcmd : i.cmd with
  | some c => exact decode_encode_of_cmd h hkinds hfree hcmd
  | none =>
    cases i <;> cases hcmd
    rfl

/-- Settles O51: a matched row is a row of the table, and so stands at its id. -/
theorem matchedIdIsTablePosition : Obligations.MatchedIdIsTablePosition := by
  intro ts p t h hmatch
  obtain ⟨ht, -⟩ := matchTemplate_some hmatch
  obtain ⟨hposition, hlt⟩ := getElem?_id h ht
  exact ⟨hposition, hlt, idOf_toNat h ht⟩

/-- Settles O50: the fixed row's prefix is the first five bytes of the word, and it stands first in the table. -/
theorem knownWordsDecode : Obligations.KnownWordsDecode :=
  fun _ => ⟨rfl, rfl⟩

end Sys2Proof.Machine
end

section
/-! The ways a step can go, and what each part of a tick does, said once (60_exceptions.md R349, R351). -/

namespace Sys2Proof.Machine

open Sys2Proof.Claims

/-! The step. -/

/-- A step performs the event the schedule holds first. -/
theorem step_of_schedule {s : State} {e : Event} {rest : List Event} (hready : ready s)
    (hsched : s.schedule = e :: rest) : step s = perform e { s with schedule := rest } := by
  obtain ⟨hwf, hfault, hrefused⟩ := hready
  have hnext : s.nextEvent = e := by simp [State.nextEvent, hsched]
  rw [step_eq_runNext hwf hfault hrefused, runNext, hnext, takeEvent_cons hsched]

/-- A step that takes a scheduled tick runs the ramp and the occupancy unit on the state the assembler's part leaves
(R351). -/
theorem step_tick_eq {s u : State} {rest : List Event} (hready : ready s) (hsched : s.schedule = .tick :: rest)
    (hu : assemblerTick { s with schedule := rest } = .next u) : step s = .next (occupancyTick (rampTick u)) := by
  rw [step_of_schedule hready hsched]
  simp only [perform, tick, hu]

/-- The ways a step goes from a state: one for each event, one for an event that passes with no effect, and two for an
enabled `Dispatch`, whose frame is dropped or executed (R91, R152, R349). -/
inductive Stepped (s : State) : State → Prop
  | received (b : Byte) : Stepped s (rxByte b (takeEvent s))
  | ticked {u : State} (hasm : assemblerTick (takeEvent s) = .next u) : Stepped s (occupancyTick (rampTick u))
  | moved : Stepped s (motion (takeEvent s))
  | requested : Stepped s (identRequest (takeEvent s))
  | handed (hevent : s.nextEvent = .respReady) : Stepped s (handResp (takeEvent s))
  | passed : Stepped s (takeEvent s)
  | dropped (h : dispatching s) : Stepped s (takeFrame (takeEvent s))
  | executed {c : Cmd} {t : State} (h : executes s c)
      (hexec : exec (Instr.ofFrame c s.asm.fhold) (takeFrame (takeEvent s)) = .next t) : Stepped s t

theorem step_stepped {s t : State} (h : step s = .next t) : Stepped s t := by
  obtain ⟨hwf, hfault, hrefused, hrun⟩ := step_next h
  unfold runNext at hrun
  generalize he : s.nextEvent = e at hrun
  cases e with
  | rxByte b =>
    cases hrun
    exact .received b
  | tick =>
    obtain ⟨u, hasm, htick⟩ := tick_next (takeEvent s)
    cases htick.symm.trans hrun
    exact .ticked hasm
  | motion =>
    cases hrun
    exact .moved
  | identRequest =>
    cases hrun
    exact .requested
  | respReady =>
    simp only [perform] at hrun
    split at hrun <;> cases hrun
    · exact .handed he
    · exact .passed
  | dispatch =>
    simp only [perform] at hrun
    split at hrun
    next henabled =>
      have hdispatching : dispatching s := ⟨⟨hwf, hfault, hrefused⟩, he, henabled⟩
      obtain rfl | ⟨c, haddr, hnew, hdecode, hexec⟩ := dispatchFrame_next hrun
      · exact .dropped hdispatching
      · exact .executed ⟨hdispatching, haddr, hnew, _, hdecode, Instr.ofFrame_cmd c _⟩ hexec
    next =>
      cases hrun
      exact .passed

/-- An executed command is a dispatch. -/
theorem executes_dispatching {s : State} {c : Cmd} (h : executes s c) : dispatching s :=
  h.1

/-- The conditions of R150. -/
theorem dispatchEnabled_iff (s : State) :
    dispatchEnabled s = true ↔
      s.asm.framePending = true ∧ s.disp.dispState = .idle ∧ s.ramp.currentDuty = s.ramp.targetDuty ∧ s.fault = none ∧
        s.refused = none := by
  simp [dispatchEnabled, State.marked, Ramp.busy, and_assoc]

theorem dispatching_idle {s : State} (h : dispatching s) : s.disp.dispState = .idle := by
  obtain ⟨-, -, henabled⟩ := h
  obtain ⟨-, hidle, -⟩ := (dispatchEnabled_iff s).mp henabled
  exact hidle

/-! The occupancy unit's part of a tick. -/

/-- The minute part of a tick: the prescaler counts on; or it wraps, and then while Disabled that is all, and while
Armed the load goes off at the limit and the minute counter counts on below it (R255, R256). -/
theorem minuteTick_cases (s : State) :
    (s.occ.minutePresc + 1 < s.cfg.minuteTicks ∧
        minuteTick s = { s with occ.minutePresc := s.occ.minutePresc + 1 }) ∨
      (s.cfg.minuteTicks ≤ s.occ.minutePresc + 1 ∧ s.occ.sensorEnabled = false ∧
        minuteTick s = { s with occ.minutePresc := 0 }) ∨
      (s.cfg.minuteTicks ≤ s.occ.minutePresc + 1 ∧ s.occ.sensorEnabled = true ∧
        s.conf.maxTimeout.toNat ≤ s.occ.timeoutTicks.toNat + 1 ∧
        minuteTick s = { s with ramp.loadOn := false, occ.minutePresc := 0, occ.timeoutTicks := 0#8 }) ∨
      (s.cfg.minuteTicks ≤ s.occ.minutePresc + 1 ∧ s.occ.sensorEnabled = true ∧
        s.occ.timeoutTicks.toNat + 1 < s.conf.maxTimeout.toNat ∧
        minuteTick s = { s with occ.minutePresc := 0, occ.timeoutTicks := s.occ.timeoutTicks + 1#8 }) := by
  simp only [minuteTick, minuteEvent]
  split_ifs with hwraps harmed hlimit
  · exact .inr (.inr (.inl ⟨hwraps, harmed, hlimit, rfl⟩))
  · exact .inr (.inr (.inr ⟨hwraps, harmed, Nat.lt_of_not_le hlimit, rfl⟩))
  · exact .inr (.inl ⟨hwraps, Bool.eq_false_iff.mpr harmed, rfl⟩)
  · exact .inl ⟨Nat.lt_of_not_le hwraps, rfl⟩

/-- The sampler's part of a tick: off, it holds; within a window it counts a tick; else the window ends (R257). -/
theorem Occupancy.sampleTick_cases (window : Nat) (o : Occupancy) :
    (o.requestMode = false ∧ o.sampleTick window = o) ∨
      (o.requestMode = true ∧ o.sampleCnt + 1 < window ∧
        o.sampleTick window = { o with sampleCnt := o.sampleCnt + 1 }) ∨
      (o.requestMode = true ∧ window ≤ o.sampleCnt + 1 ∧ o.sampleTick window = o.windowEnd) := by
  unfold Occupancy.sampleTick
  split_ifs with hmode hends
  · exact .inr (.inr ⟨hmode, hends, rfl⟩)
  · exact .inr (.inl ⟨hmode, Nat.lt_of_not_le hends, rfl⟩)
  · exact .inl ⟨Bool.eq_false_iff.mpr hmode, rfl⟩

/-- The end of a window returns the tick count to 0, clears the flag and bumps the presence count if the flag was set
(R257). -/
theorem Occupancy.windowEnd_eq (o : Occupancy) :
    o.windowEnd =
      { o with
        sampleCnt := 0
        presentCount := if o.motionFlag then bumpCount o.presentCount else o.presentCount
        motionFlag := false } := by
  obtain ⟨_, _, _, _, _, _, _, flag, _⟩ := o
  cases flag <;> rfl

/-- The sampler writes its tick count, the presence count and the flag. -/
theorem Occupancy.sampleTick_eq (window : Nat) (o : Occupancy) :
    ∃ cnt count flag,
      o.sampleTick window = { o with sampleCnt := cnt, presentCount := count, motionFlag := flag } := by
  obtain ⟨-, h⟩ | ⟨-, -, h⟩ | ⟨-, -, h⟩ := o.sampleTick_cases window <;> rw [h]
  · exact ⟨_, _, _, rfl⟩
  · exact ⟨_, _, _, rfl⟩
  · exact ⟨_, _, _, o.windowEnd_eq⟩

/-- The minute part of a tick writes the two minute counters and the load. -/
theorem minuteTick_writes (s : State) :
    ∃ presc timeout load,
      minuteTick s = { s with occ.minutePresc := presc, occ.timeoutTicks := timeout, ramp.loadOn := load } := by
  obtain ⟨-, h⟩ | ⟨-, -, h⟩ | ⟨-, -, -, h⟩ | ⟨-, -, -, h⟩ := minuteTick_cases s <;> exact ⟨_, _, _, h⟩

/-- The occupancy unit's part of a tick writes counters and flags of its own and the load; no mode (R85, R255). -/
theorem occupancyTick_writes (s : State) :
    ∃ presc timeout cnt count flag load,
      occupancyTick s =
        { s with
          occ := { s.occ with
            minutePresc := presc, timeoutTicks := timeout, sampleCnt := cnt, presentCount := count, motionFlag := flag }
          ramp.loadOn := load } := by
  obtain ⟨presc, timeout, load, hminute⟩ := minuteTick_writes s
  obtain ⟨cnt, count, flag, hsample⟩ :=
    (minuteTick s).occ.sampleTick_eq ((minuteTick s).cfg.sampleWindowTicks (minuteTick s).conf.sensingPeriod)
  refine ⟨presc, timeout, cnt, count, flag, load, ?_⟩
  rw [occupancyTick, samplerTick, hsample, hminute]

@[simp] theorem occupancyTick_asm (s : State) : (occupancyTick s).asm = s.asm := by
  obtain ⟨_, _, _, _, _, _, h⟩ := occupancyTick_writes s
  rw [h]

@[simp] theorem occupancyTick_disp (s : State) : (occupancyTick s).disp = s.disp := by
  obtain ⟨_, _, _, _, _, _, h⟩ := occupancyTick_writes s
  rw [h]

@[simp] theorem occupancyTick_outputs (s : State) : (occupancyTick s).outputs = s.outputs := by
  obtain ⟨_, _, _, _, _, _, h⟩ := occupancyTick_writes s
  rw [h]

/-! The ramp's part of a tick. -/

/-- A tick leaves the load unless it completes a ramp to off (R217). -/
theorem Ramp.tick_loadOn {rate : Byte} {pause : Nat} {r : Ramp}
    (h : ¬(r.currentDuty ≠ r.targetDuty ∧ (r.tick rate pause).currentDuty = r.targetDuty ∧
      isOff r.targetDuty = true)) : (r.tick rate pause).loadOn = r.loadOn := by
  obtain ⟨-, ht⟩ | ⟨-, -, ht⟩ | ⟨-, -, -, ht⟩ | ⟨hbusy, -, hlast, ht⟩ := r.tick_cases rate pause <;> rw [ht] at h ⊢
  have hreached : rampStep r.currentDuty r.targetDuty rate = r.targetDuty := by simpa [Ramp.busy] using hlast
  have hon : isOff r.targetDuty = false := by
    rw [← Bool.not_eq_true]
    exact fun hoff => h ⟨(Ramp.busy_iff r).mp hbusy, (Ramp.finish_currentDuty _).trans hreached, hoff⟩
  simp [Ramp.finish, hon]

/-! The frame assembler. -/

/-- The last tick of an armed timer (R126). -/
theorem Assembler.expiring_iff (a : Assembler) : a.expiring = true ↔ a.idleArmed = true ∧ a.idleCnt ≤ 1 := by
  simp [Assembler.expiring]

/-- A tick that is not the last takes one off an armed timer (R126). -/
theorem Assembler.countDown_eq (a : Assembler) :
    a.countDown = { a with idleCnt := if a.idleArmed then a.idleCnt - 1 else a.idleCnt } := by
  unfold Assembler.countDown
  split_ifs <;> rfl

/-- A completed frame goes to the hold unless a frame is pending, and is lost then (R124, R125). -/
theorem Assembler.handOff_eq (a : Assembler) :
    a.handOff =
      { a with fhold := if a.framePending then a.fhold else a.fbuf, framePending := true } := by
  obtain ⟨_, _, _, _, _, _, _, pending⟩ := a
  cases pending <;> rfl

/-- A completed frame is handed off and ends, and the timer is stopped or runs out as the parameter says (R124). -/
theorem Assembler.complete_cases (p : Params) (a : Assembler) :
    let ended :=
      { a with
        fhold := if a.framePending then a.fhold else a.fbuf
        framePending := true
        fill := 0#4
        identMode := false }
    (p.idleExpiry = .disarm ∧ a.complete p = { ended with idleArmed := false, idleCnt := 0 }) ∨
      (p.idleExpiry = .runOut ∧ a.complete p = ended) := by
  intro ended
  unfold Assembler.complete
  rw [Assembler.handOff_eq]
  cases p.idleExpiry with
  | disarm => exact .inl ⟨rfl, rfl⟩
  | runOut => exact .inr ⟨rfl, rfl⟩

/-- While a frame is pending, an accepted byte leaves it (R125). -/
theorem rxByte_keeps_held (b : Byte) {s : State} (h : s.asm.framePending = true) :
    (rxByte b s).asm.framePending = true ∧ (rxByte b s).asm.fhold = s.asm.fhold := by
  unfold rxByte
  split_ifs
  · exact ⟨h, rfl⟩
  · obtain ⟨-, ha⟩ | ⟨-, ha⟩ | ⟨-, -, ha⟩ := s.asm.accept_cases s.cfg b
    · rw [ha]
      exact ⟨h, rfl⟩
    · rw [ha]
      obtain ⟨-, hc⟩ | ⟨-, hc⟩ :=
        Assembler.complete_cases s.cfg { s.asm with fbuf := s.asm.fbuf.setIfInBounds s.asm.fill.toNat b } <;>
      · rw [hc]
        exact ⟨rfl, if_pos h⟩
    · rw [ha]
      exact ⟨h, rfl⟩

/-! The motion edge. -/

/-- One edge reaches the debounce threshold, whatever the counter held (R50, R253). -/
theorem debounceThreshold_le_bumpDebounce (d : Byte) : Config.debounceThreshold ≤ (bumpDebounce d).toNat := by
  have hthreshold : Config.debounceThreshold = 1 := rfl
  unfold bumpDebounce
  split_ifs with hlast
  · exact (by decide : 1 ≤ (255#8).toNat)
  · bv_omega

/-- What a motion edge does: while Disabled it sets the flag, and while Armed it also resets the counters and switches
the load on unless that is forced off (R252, R253). -/
theorem motion_cases (s : State) :
    (s.occ.sensorEnabled = false ∧ motion s = { s with occ.motionFlag := true }) ∨
      (s.occ.sensorEnabled = true ∧
        motion s =
          { s with
            ramp.loadOn := s.ramp.loadOn || !s.occ.manuallyOff
            occ.motionFlag := true
            occ.timeoutTicks := 0#8
            occ.debounce := 0#8 }) := by
  simp only [motion, debounceStep, debounceThreshold_le_bumpDebounce, if_true]
  cases harmed : s.occ.sensorEnabled with
  | false => exact .inl ⟨rfl, rfl⟩
  | true =>
    have hload : (if s.occ.manuallyOff then s.ramp.loadOn else true) = (s.ramp.loadOn || !s.occ.manuallyOff) := by
      cases s.occ.manuallyOff <;> simp
    exact .inr ⟨rfl, by simp only [hload, if_true]⟩

end Sys2Proof.Machine
end

section
/-! The register invariant (10_state.md R23 to R57, 60_exceptions.md R357): what each part of the machine keeps of it,
and with that the statements that it holds after reset and over every step. -/

namespace Sys2Proof

/-! What a well-formed configuration gives. -/

/-- A well-formed configuration has gaps and minutes of at least one tick, and a checked table (R9). -/
theorem Params.wf_bounds {p : Params} (h : p.wf = true) :
    1 ≤ p.idleGapTicks ∧ 1 ≤ p.identGapTicks ∧ 1 ≤ p.minuteTicks ∧ tableOk p.templates = true := by
  simp only [Params.wf, Bool.and_eq_true, decide_eq_true_eq] at h
  obtain ⟨⟨⟨⟨⟨hidle, hident⟩, hminute⟩, -⟩, htable⟩, -⟩ := h
  exact ⟨hidle, hident, hminute, htable⟩

/-- A command's id is one of the 38 (R28, R101). -/
theorem Params.idOf_lt {p : Params} (h : p.wf = true) (c : Cmd) : (p.idOf c).toNat < 38 := by
  obtain ⟨-, -, -, htable⟩ := Params.wf_bounds h
  exact Sys2Proof.idOf_lt htable c

end Sys2Proof

namespace Sys2Proof.Machine

open Sys2Proof.Claims

/-! The dispatcher. -/

theorem State.Inv.executedSilently {s : State} (h : s.Inv) (c : Cmd) : (executedSilently c s).Inv :=
  { h with dedupe_id := .inr (Params.idOf_lt h.cfg_wf c) }

/-- An executed command leaves its id, and a response exactly if it leaves the dispatcher waiting (R160, R161). -/
theorem State.Inv.executed {s : State} (h : s.Inv) (c : Cmd) {p : List Byte} (hp : p ≠ []) :
    (executed c p s).Inv :=
  { h with
    dedupe_id := .inr (Params.idOf_lt h.cfg_wf c)
    resp_held := by
      rw [executed_dispState, executed_respBuf]
      split_ifs
      · simp
      · exact h.resp_held
    resp_nonempty := by
      intro r hr
      rw [executed_respBuf] at hr
      split_ifs at hr
      · cases hr
        exact hp
      · exact h.resp_nonempty r hr }

theorem State.Inv.executedOpen {s : State} (h : s.Inv) (c : Cmd) : (executedOpen c s).Inv :=
  h.executed c (openPayload_ne_nil c s)

/-- A response handed over leaves none and the dispatcher Idle (R181). -/
theorem State.Inv.handResp {s : State} (h : s.Inv) : (handResp s).Inv :=
  { h with
    resp_held := by simp
    resp_nonempty := by simp }

/-! The instructions. -/

theorem percentByte_toNat (v : Percent) : (percentByte v).toNat = v.val := by
  have hv := v.isLt
  rw [percentByte, BitVec.toNat_ofNat, Nat.mod_eq_of_lt (by omega)]

theorem dutyMap_le (p : Percent) : (dutyMap p).toNat ≤ 3300 := by
  rw [dutyMap_toNat]
  split_ifs <;> omega

@[simp] theorem Ramp.setLevel_targetDuty (p : Percent) (r : Ramp) : (r.setLevel p).targetDuty = dutyMap p := by
  simp only [Ramp.setLevel]
  split <;> rfl

@[simp] theorem Ramp.setLevel_activePct (p : Percent) (r : Ramp) : (r.setLevel p).activePct = percentByte p := by
  simp only [Ramp.setLevel]
  split <;> rfl

/-- A level is a duty of the map and a percentage (R213). -/
theorem State.Inv.setLevel {s : State} (h : s.Inv) (p : Percent) : State.Inv { s with ramp := s.ramp.setLevel p } :=
  { h with
    current_le := (Ramp.setLevel_currentDuty p s.ramp).symm ▸ h.current_le
    target_le := (Ramp.setLevel_targetDuty p s.ramp).symm ▸ dutyMap_le p
    active_le := by
      have hp := p.isLt
      rw [Ramp.setLevel_activePct, percentByte_toNat]
      omega }

/-- The group pointer moves on within the slots (R290). -/
theorem State.Inv.insertGroup {s : State} (h : s.Inv) (v : Byte) : (insertGroup v s).Inv :=
  { h with
    group_wp_lt := by
      rw [insertGroup_groupWp, BitVec.toNat_ofNat]
      omega }

/-- Every command keeps the invariant. -/
theorem exec_keepsInv {i : Instr} {s : State} (hcmd : i.cmd ≠ none) (h : s.Inv) : EveryNext State.Inv (exec i s) := by
  have faulted : State.Inv { s with fault := some .undefParam } := { h with }
  cases i with
  | identityFrame => exact absurd rfl hcmd
  | setHostAddr a0 a1 a2 a3 =>
    simp only [exec, execSetHostAddr]
    split
    · exact .next (h.executedSilently _)
    · refine .next (State.Inv.executedOpen ?_ _)
      exact { h with }
  | setLevel => exact .withNumber (fun v => (h.setLevel v).executedOpen _) faulted
  | setGroup => exact .withNumber (fun v => (h.insertGroup _).executedOpen _) faulted
  | setSensingFreq | setTimeout | setPowerOnLevel | setFadeRate | setFadeDelay | storeLisGroup =>
    refine .withNumber (fun v => State.Inv.executedOpen ?_ _) faulted
    exact { h with }
  | setScene | clearScene =>
    refine .withScene (fun k => .next (State.Inv.executedOpen ?_ _)) faulted
    exact { h with }
  | getScene => exact .withScene (fun k => .next (h.executed _ (List.cons_ne_nil _ _))) faulted
  | gotoScene hi lo =>
    refine .withScene (fun k => ?_) faulted
    obtain ⟨-, hk⟩ | ⟨-, _, hk⟩ | ⟨-, hk⟩ := recallScene_cases s.conf.scenes[k] s <;> rw [hk]
    · exact .next (h.executedOpen _)
    · exact .next ((h.setLevel _).executedOpen _)
    · exact .next faulted
  | clearGroup | factoryReset =>
    refine .next (State.Inv.executedOpen ?_ _)
    exact { h with group_wp_lt := Nat.zero_lt_succ _ }
  | enableSensor =>
    refine .next (State.Inv.executedOpen ?_ _)
    exact { h with debounce_clear := rfl }
  | clearCount =>
    refine .next (State.Inv.executedOpen ?_ _)
    exact { h with count_le := Nat.zero_le _ }
  | getGroup =>
    refine .next (h.executed _ fun hnil => ?_)
    simpa using congrArg List.length hnil
  | getLisGroup | getSensorData | getTimeout | getPercentage | getGroupCount =>
    exact .next (h.executed _ (List.cons_ne_nil _ _))
  | resetHostAddr | setPollAddr | clearLisGroup | commission | decommission | identify | writeFlash | relayOn
  | relayOff | disableSensor | enableRequestMode | getSettings | getHealth | getOwnAddress =>
    refine .next (State.Inv.executedOpen ?_ _)
    exact { h with }
  | cmd38 => exact .next { h with }

/-! The frame assembler. -/

/-- The started timer has the ticks of its mode, at least one (R122). -/
theorem gap_bounds {p : Params} (h : p.wf = true) (ident : Bool) :
    0 < (if ident then p.identGapTicks else p.idleGapTicks) ∧
      (if ident then p.identGapTicks else p.idleGapTicks) ≤ max p.idleGapTicks p.identGapTicks := by
  obtain ⟨hidle, hident, -⟩ := Params.wf_bounds h
  split_ifs <;> omega

/-- An accepted byte stored at the fill index makes one more accepted byte (R121). -/
theorem stored_sendable {f : Frame8} {n : Nat} {b : Byte} (hb : isFiltered b = false)
    (h : ∀ k : Fin 8, k.val < n → isFiltered f[k] = false) :
    ∀ k : Fin 8, k.val < n + 1 → isFiltered (f.setIfInBounds n b)[k] = false := by
  intro k hk
  rw [Fin.getElem_fin, Vector.getElem_setIfInBounds k.isLt]
  split_ifs with hlast
  · exact hb
  · exact h k (by omega)

/-- A frame that is complete leaves accepted bytes in the hold and ends; the timer is stopped with no ticks left, or
goes on as it was (R124). -/
theorem State.Inv.complete {s : State} (h : s.Inv) {f : Frame8} (hf : ∀ k : Fin 8, isFiltered f[k] = false) :
    State.Inv { s with asm := Assembler.complete s.cfg { s.asm with fbuf := f } } := by
  have held : ∀ k : Fin 8, isFiltered (if s.asm.framePending then s.asm.fhold else f)[k] = false := by
    split_ifs with hpending
    · exact h.fhold_sendable hpending
    · exact hf
  obtain ⟨-, hc⟩ | ⟨-, hc⟩ := Assembler.complete_cases s.cfg { s.asm with fbuf := f } <;> rw [hc]
  · exact
      { h with
        fill_lt := Nat.zero_lt_succ _
        fbuf_sendable := fun k _ => hf k
        fhold_sendable := fun _ => held
        timer_armed := by simp
        timer_bound := Nat.zero_le _
        partial_timed := fun hne => absurd rfl hne
        ident_partial := nofun }
  · exact
      { h with
        fill_lt := Nat.zero_lt_succ _
        fbuf_sendable := fun k _ => hf k
        fhold_sendable := fun _ => held
        partial_timed := fun hne => absurd rfl hne
        ident_partial := nofun }

theorem State.Inv.rxByte {s : State} (h : s.Inv) (b : Byte) : (rxByte b s).Inv := by
  unfold Machine.rxByte
  cases hb : isFiltered b with
  | true => exact h
  | false =>
    have stored := stored_sendable hb h.fbuf_sendable
    rw [if_neg Bool.false_ne_true]
    obtain ⟨h0, ha⟩ | ⟨h7, ha⟩ | ⟨h0, h7, ha⟩ := s.asm.accept_cases s.cfg b <;> rw [ha]
    · obtain ⟨hpos, hle⟩ := gap_bounds h.cfg_wf s.asm.awaitingIdentity
      exact
        { h with
          fill_lt := (by decide : (1#4).toNat < 8)
          fbuf_sendable := fun k hk => stored k (by simpa [h0] using hk)
          timer_armed := iff_of_true rfl hpos
          timer_bound := hle
          partial_timed := fun _ => rfl
          ident_partial := fun _ => (by decide : 1#4 ≠ 0#4) }
    · exact h.complete fun k => stored k (by simp [h7])
    · have hlt := h.fill_lt
      have hfill : (s.asm.fill + 1#4).toNat = s.asm.fill.toNat + 1 := by bv_omega
      exact
        { h with
          fill_lt := by
            simp only [hfill]
            bv_omega
          fbuf_sendable := by simpa only [hfill] using stored
          partial_timed := fun _ => h.partial_timed h0
          ident_partial := fun _ => by
            simp only [ne_eq]
            bv_omega }

/-- An expired timer is stopped with its frame ended (R126). -/
theorem State.Inv.expired {s : State} (h : s.Inv) :
    State.Inv { s with asm := { s.asm.expired with fill := 0#4 } } :=
  { h with
    fill_lt := Nat.zero_lt_succ _
    fbuf_sendable := fun _ hk => absurd hk (Nat.not_lt_zero _)
    timer_armed := by simp [Assembler.expired]
    timer_bound := Nat.zero_le _
    partial_timed := fun hne => absurd rfl hne
    ident_partial := nofun }

/-- A tick that is not the timer's last leaves ticks in an armed timer (R126). -/
theorem State.Inv.countDown {s : State} (h : s.Inv) (hmore : s.asm.expiring = false) :
    State.Inv { s with asm := s.asm.countDown } := by
  have hticks : s.asm.idleArmed = true → 1 < s.asm.idleCnt := fun harmed =>
    Nat.lt_of_not_le fun hlast => Bool.eq_false_iff.mp hmore (s.asm.expiring_iff.mpr ⟨harmed, hlast⟩)
  have hpos : s.asm.idleArmed = true ↔ 0 < if s.asm.idleArmed then s.asm.idleCnt - 1 else s.asm.idleCnt := by
    split_ifs with harmed
    · exact iff_of_true harmed (Nat.sub_pos_of_lt (hticks harmed))
    · exact h.timer_armed
  have hle : (if s.asm.idleArmed then s.asm.idleCnt - 1 else s.asm.idleCnt) ≤ s.asm.idleCnt := by
    split_ifs
    · exact Nat.sub_le _ _
    · exact Nat.le_refl _
  rw [Assembler.countDown_eq]
  exact { h with timer_armed := hpos, timer_bound := hle.trans h.timer_bound }

theorem assemblerTick_keepsInv {s u : State} (h : s.Inv) (hu : assemblerTick s = .next u) : u.Inv := by
  obtain ⟨hmore, hcase⟩ | ⟨-, -, -, hcase⟩ | ⟨-, -, hcase⟩ := assemblerTick_cases s <;> cases hcase.symm.trans hu
  · exact h.countDown hmore
  · exact { h.expired with }
  · exact { h.expired with dedupe_id := .inl rfl }

/-! The ramp and the occupancy unit. -/

/-- A ramp step stays between the duty and its target (R216). -/
theorem rampStep_le {current target : Half} {bound : Nat} (rate : Byte) (hcurrent : current.toNat ≤ bound)
    (htarget : target.toNat ≤ bound) : (rampStep current target rate).toNat ≤ bound := by
  obtain h | h := Nat.le_total current.toNat target.toNat
  · rw [rampStep_up rate h]
    omega
  · rw [rampStep_down rate h]
    omega

@[simp] theorem Ramp.finish_activePct (r : Ramp) : r.finish.activePct = r.activePct := by
  unfold Ramp.finish
  split <;> rfl

@[simp] theorem Ramp.tick_activePct (rate : Byte) (pause : Nat) (r : Ramp) :
    (r.tick rate pause).activePct = r.activePct := by
  obtain ⟨-, h⟩ | ⟨-, -, h⟩ | ⟨-, -, -, h⟩ | ⟨-, -, -, h⟩ := r.tick_cases rate pause <;> rw [h]
  exact Ramp.finish_activePct _

theorem State.Inv.rampTick {s : State} (h : s.Inv) : (rampTick s).Inv :=
  { h with
    current_le := by
      rw [rampTick_ramp]
      obtain hduty | hduty := s.ramp.tick_currentDuty s.conf.fadeRate (s.cfg.fadeDelayTicks s.conf.fadeDelay) <;>
        rw [hduty]
      · exact h.current_le
      · exact rampStep_le _ h.current_le h.target_le
    target_le := by
      rw [rampTick_ramp, Ramp.tick_targetDuty]
      exact h.target_le
    active_le := by
      rw [rampTick_ramp, Ramp.tick_activePct]
      exact h.active_le }

/-- The prescaler wraps before it reaches the length of a minute (R255). -/
theorem State.Inv.minuteTick {s : State} (h : s.Inv) : (minuteTick s).Inv := by
  obtain ⟨-, -, hminute, -⟩ := Params.wf_bounds h.cfg_wf
  obtain ⟨hlt, hcase⟩ | ⟨-, -, hcase⟩ | ⟨-, -, -, hcase⟩ | ⟨-, -, -, hcase⟩ := minuteTick_cases s <;> rw [hcase]
  · exact { h with minute_lt := hlt }
  · exact { h with minute_lt := hminute }
  · exact { h with minute_lt := hminute }
  · exact { h with minute_lt := hminute }

/-- A window's end counts modulo 255 (R257). -/
theorem Occupancy.windowEnd_count_le {o : Occupancy} (h : o.presentCount.toNat ≤ 254) :
    o.windowEnd.presentCount.toNat ≤ 254 := by
  rw [Occupancy.windowEnd_eq]
  split_ifs
  · have hbumped := bumpCount_toNat h
    simp only [hbumped]
    omega
  · exact h

theorem Occupancy.sampleTick_count_le {o : Occupancy} (window : Nat) (h : o.presentCount.toNat ≤ 254) :
    (o.sampleTick window).presentCount.toNat ≤ 254 := by
  obtain ⟨-, hs⟩ | ⟨-, -, hs⟩ | ⟨-, -, hs⟩ := o.sampleTick_cases window <;> rw [hs]
  · exact h
  · exact h
  · exact Occupancy.windowEnd_count_le h

theorem State.Inv.samplerTick {s : State} (h : s.Inv) : (samplerTick s).Inv := by
  have hcount := s.occ.sampleTick_count_le (s.cfg.sampleWindowTicks s.conf.sensingPeriod) h.count_le
  obtain ⟨_, _, _, hocc⟩ := s.occ.sampleTick_eq (s.cfg.sampleWindowTicks s.conf.sensingPeriod)
  rw [hocc] at hcount
  rw [Machine.samplerTick, hocc]
  exact { h with count_le := hcount }

theorem State.Inv.occupancyTick {s : State} (h : s.Inv) : (occupancyTick s).Inv :=
  h.minuteTick.samplerTick

/-- A motion edge leaves the debounce counter clear (R253). -/
theorem State.Inv.motion {s : State} (h : s.Inv) : (motion s).Inv := by
  obtain ⟨-, hm⟩ | ⟨-, hm⟩ := motion_cases s <;> rw [hm]
  · exact { h with }
  · exact { h with debounce_clear := rfl }

/-! Reset and the step. -/

/-- Settles O59: every register is at its reset value, and a well-formed configuration's minute has at least one tick. -/
theorem resetHasInv : Obligations.ResetHasInv := by
  intro p img hwf
  obtain ⟨-, -, hminute, -⟩ := Params.wf_bounds hwf
  exact
    { cfg_wf := hwf
      fill_lt := Nat.zero_lt_succ _
      fbuf_sendable := fun _ hk => absurd hk (Nat.not_lt_zero _)
      fhold_sendable := nofun
      timer_armed := by simp [State.resetWith, Assembler.atReset]
      timer_bound := Nat.zero_le _
      partial_timed := fun hne => absurd rfl hne
      ident_partial := nofun
      resp_held := by simp [State.resetWith, Dispatcher.atReset]
      resp_nonempty := nofun
      dedupe_id := .inl rfl
      group_wp_lt := Nat.zero_lt_succ _
      current_le := Nat.le_refl 3300
      target_le := Nat.le_refl 3300
      active_le := Nat.zero_le _
      debounce_clear := rfl
      minute_lt := hminute
      count_le := Nat.zero_le _ }

theorem State.Inv.takeEvent {s : State} (h : s.Inv) : (takeEvent s).Inv :=
  { h with }

/-- A taken frame is held no longer (R151). -/
theorem State.Inv.takeFrame {s : State} (h : s.Inv) : (takeFrame s).Inv :=
  { h with fhold_sendable := nofun }

/-- Settles O60: each way a step can go keeps the invariant of the state with its event taken. -/
theorem stepKeepsInv : Obligations.StepKeepsInv := by
  intro s t hinv h
  have taken := hinv.takeEvent
  cases step_stepped h with
  | received b => exact taken.rxByte b
  | ticked hasm => exact (assemblerTick_keepsInv taken hasm).rampTick.occupancyTick
  | moved => exact taken.motion
  | requested => exact { taken with }
  | handed => exact taken.handResp
  | passed => exact taken
  | dropped => exact taken.takeFrame
  | executed hexecutes hexec => exact exec_keepsInv (by simp) taken.takeFrame t hexec

end Sys2Proof.Machine
end

section
/-! What only a dispatched command writes, what a waiting response blocks, the commissioning lock, and the time a partial
frame has (20_memory.md R85, 41_dispatcher.md R182, 60_exceptions.md R356 and R360, 40_frame_assembler.md R126, R127). -/

namespace Sys2Proof.Machine

open Sys2Proof.Claims

/-! What the events write. -/

/-- A received byte writes the assembler's registers only (R120). -/
theorem rxByte_writes (b : Byte) (s : State) : ∃ asm, rxByte b s = { s with asm := asm } := by
  unfold rxByte
  split_ifs
  · exact ⟨s.asm, rfl⟩
  · exact ⟨_, rfl⟩

/-- The assembler part of a tick writes the bytes in progress, the timer and the dedupe value; it leaves the held frame
and the response (R126 to R128). -/
theorem assemblerTick_keeps_held {s u : State} (h : assemblerTick s = .next u) :
    u.asm.framePending = s.asm.framePending ∧ u.asm.fhold = s.asm.fhold ∧ u.disp.dispState = s.disp.dispState ∧
      u.disp.respBuf = s.disp.respBuf := by
  obtain ⟨-, hu⟩ | ⟨-, -, -, hu⟩ | ⟨-, -, hu⟩ := assemblerTick_cases s <;> cases hu.symm.trans h
  · rw [Assembler.countDown_eq]
    exact ⟨rfl, rfl, rfl, rfl⟩
  · exact ⟨rfl, rfl, rfl, rfl⟩
  · exact ⟨rfl, rfl, rfl, rfl⟩

/-- Settles O45: of the ways a step can go only a dispatched frame reaches the configuration, the level and the
modes. -/
theorem onlyDispatchWritesConfiguration : Obligations.OnlyDispatchWritesConfiguration := by
  intro s t h hnot
  cases step_stepped h with
  | received b =>
    obtain ⟨_, hb⟩ := rxByte_writes b (takeEvent s)
    rw [hb]
    exact ⟨rfl, rfl, rfl, rfl, rfl, rfl, rfl⟩
  | ticked hasm =>
    obtain ⟨asm, disp, outputs, hu⟩ := assemblerTick_eq (takeEvent s)
    cases hu.symm.trans hasm
    obtain ⟨_, _, _, _, _, _, hocc⟩ :=
      occupancyTick_writes (rampTick { takeEvent s with asm := asm, disp := disp, outputs := outputs })
    rw [hocc]
    exact ⟨rfl, rfl, Ramp.tick_targetDuty _ _ _, Ramp.tick_activePct _ _ _, rfl, rfl, rfl⟩
  | moved =>
    obtain ⟨-, hm⟩ | ⟨-, hm⟩ := motion_cases (takeEvent s) <;> rw [hm] <;>
      exact ⟨rfl, rfl, rfl, rfl, rfl, rfl, rfl⟩
  | requested => exact ⟨rfl, rfl, rfl, rfl, rfl, rfl, rfl⟩
  | handed => exact ⟨rfl, rfl, rfl, rfl, rfl, rfl, rfl⟩
  | passed => exact ⟨rfl, rfl, rfl, rfl, rfl, rfl, rfl⟩
  | dropped hdispatching => exact absurd hdispatching hnot
  | executed hexecutes => exact absurd (executes_dispatching hexecutes) hnot

/-- Settles O44: a waiting response keeps `Dispatch` from being enabled, and no other event but RespReady reaches the
response, the configuration or a held frame. -/
theorem unacceptedResponseHangs : Obligations.UnacceptedResponseHangs := by
  intro s t hwait hevent h
  have notDispatching : ¬dispatching s := fun hd => by simp [dispatching_idle hd] at hwait
  have hconf : t.conf = s.conf := (onlyDispatchWritesConfiguration s t h notDispatching).1
  cases step_stepped h with
  | received b =>
    obtain ⟨_, hb⟩ := rxByte_writes b (takeEvent s)
    have hdisp : (rxByte b (takeEvent s)).disp = s.disp := by rw [hb, takeEvent_disp]
    rw [hdisp]
    exact ⟨hwait, rfl, hconf, fun hheld => rxByte_keeps_held b (s := takeEvent s) hheld⟩
  | ticked hasm =>
    obtain ⟨hpending, hhold, hstate, hbuf⟩ := assemblerTick_keeps_held hasm
    simp only [occupancyTick_disp, occupancyTick_asm, rampTick_disp, rampTick_asm]
    exact ⟨hstate.trans hwait, hbuf, hconf, fun hheld => ⟨hpending.trans hheld, hhold⟩⟩
  | moved =>
    obtain ⟨-, hm⟩ | ⟨-, hm⟩ := motion_cases (takeEvent s) <;> rw [hm] <;>
      exact ⟨hwait, rfl, rfl, fun hheld => ⟨hheld, rfl⟩⟩
  | requested => exact ⟨hwait, rfl, hconf, fun hheld => ⟨hheld, rfl⟩⟩
  | handed hready => exact absurd hready hevent
  | passed => exact ⟨hwait, rfl, hconf, fun hheld => ⟨hheld, rfl⟩⟩
  | dropped hdispatching => exact absurd hdispatching notDispatching
  | executed hexecutes => exact absurd (executes_dispatching hexecutes) notDispatching

/-! The commissioning lock. -/

/-- From `s` to `t`, reached by the command `cmd`, the lock holds: the host address changes only by RESET_HOST_ADDR or
FACTORY_RESET, and the flag is cleared only by DECOMMISSION or FACTORY_RESET (R356). -/
def LockHolds (cmd : Option Cmd) (s t : State) : Prop :=
  (t.conf.hostAddr ≠ s.conf.hostAddr → cmd = some .resetHostAddr ∨ cmd = some .factoryReset) ∧
    (t.conf.commissioned = false → cmd = some .decommission ∨ cmd = some .factoryReset)

theorem LockHolds.of_kept {cmd : Option Cmd} {s t : State} (hcomm : s.conf.commissioned = true)
    (haddr : t.conf.hostAddr = s.conf.hostAddr) (hflag : t.conf.commissioned = s.conf.commissioned) :
    LockHolds cmd s t :=
  ⟨fun hne => absurd haddr hne, fun hclear => by simp [hclear, hcomm] at hflag⟩

/-- Every instruction keeps the lock of a commissioned device. -/
theorem exec_lockHolds (i : Instr) {s : State} (h : s.conf.commissioned = true) :
    EveryNext (LockHolds i.cmd s) (exec i s) := by
  have kept {t : State} (haddr : t.conf.hostAddr = s.conf.hostAddr)
      (hflag : t.conf.commissioned = s.conf.commissioned) : LockHolds i.cmd s t := .of_kept h haddr hflag
  cases i with
  | setHostAddr a0 a1 a2 a3 addr =>
    rw [exec_setHostAddr_locked a0 a1 a2 a3 addr h]
    exact .next (kept rfl rfl)
  | resetHostAddr => exact .next ⟨fun _ => .inl rfl, fun hclear => absurd (h.symm.trans hclear) nofun⟩
  | factoryReset => exact .next ⟨fun _ => .inr rfl, fun _ => .inr rfl⟩
  | decommission => exact .next ⟨fun hne => absurd rfl hne, fun _ => .inl rfl⟩
  | commission => exact .next (kept rfl h.symm)
  | setSensingFreq | setTimeout | setPowerOnLevel | setLevel | setFadeRate | setFadeDelay | setGroup | storeLisGroup =>
    exact .withNumber (fun _ => kept rfl rfl) (kept rfl rfl)
  | setScene | getScene | clearScene => exact .withScene (fun _ => .next (kept rfl rfl)) (kept rfl rfl)
  | gotoScene hi lo =>
    refine .withScene (fun k => ?_) (kept rfl rfl)
    obtain ⟨-, hk⟩ | ⟨-, _, hk⟩ | ⟨-, hk⟩ := recallScene_cases s.conf.scenes[k] s <;> rw [hk] <;>
      exact .next (kept rfl rfl)
  | setPollAddr | getGroup | clearGroup | getLisGroup | clearLisGroup | identify | writeFlash | getSensorData
  | clearCount | relayOn | relayOff | disableSensor | enableSensor | getSettings | enableRequestMode | getTimeout
  | getPercentage | getGroupCount | getHealth | getOwnAddress | cmd38 | identityFrame => exact .next (kept rfl rfl)

/-- The instruction an executed frame decodes to is the command's. -/
theorem executes_cmd {s : State} {c : Cmd} {i : Instr} (h : executes s c)
    (hdecode : decodeFrame s.cfg.templates s.asm.fhold = .ok i) : i.cmd = some c := by
  obtain ⟨-, -, -, j, hj, hcmd⟩ := h
  cases hj.symm.trans hdecode
  exact hcmd

/-- Settles O46: a step leaves the configuration or executes an instruction, and each of those keeps the lock. -/
theorem commissioningLockHolds : Obligations.CommissioningLockHolds := by
  intro s t h hcomm
  obtain hconf | ⟨c, i, hexecutes, hdecode, hexec⟩ := step_conf_cases h
  · exact ⟨fun hne => absurd (by rw [hconf]) hne, fun hclear => by simp [← hconf, hclear] at hcomm⟩
  · obtain ⟨haddr, hflag⟩ := exec_lockHolds i (s := takeFrame (takeEvent s)) hcomm t hexec
    simp only [executes_cmd hexecutes hdecode, Option.some.injEq] at haddr hflag
    refine ⟨fun hne => ?_, fun hclear => ?_⟩
    · obtain rfl | rfl := haddr hne
      · exact .inl hexecutes
      · exact .inr hexecutes
    · obtain rfl | rfl := hflag hclear
      · exact .inl hexecutes
      · exact .inr hexecutes

/-! The time a partial frame has. -/

/-- A step that takes a scheduled tick leaves the assembler, the dispatcher and the outputs as the assembler's part of
the tick does, since the parts after it write none of them (R351). -/
theorem step_tick_assembler {s u : State} {rest : List Event} (hready : ready s) (hsched : s.schedule = .tick :: rest)
    (hu : assemblerTick { s with schedule := rest } = .next u) :
    ∃ t, step s = .next t ∧ ready t ∧ t.schedule = rest ∧ t.asm = u.asm ∧ t.disp = u.disp ∧
      t.outputs = u.outputs := by
  obtain ⟨t, _, hstep, hready', -, -, hsched', -⟩ := step_tick hready hsched
  have htick := step_tick_eq hready hsched hu
  cases hstep.symm.trans htick
  exact ⟨_, htick, hready', hsched', by simp, by simp, by simp⟩

/-- A tick that is not the timer's last takes one tick off it and leaves the frame and the dispatcher (R126). -/
theorem step_tick_countDown {s : State} {rest : List Event} (hready : ready s) (hsched : s.schedule = .tick :: rest)
    (harmed : s.asm.idleArmed = true) (hmore : 1 < s.asm.idleCnt) :
    ∃ t, step s = .next t ∧ ready t ∧ t.schedule = rest ∧
      t.asm = { s.asm with idleCnt := s.asm.idleCnt - 1 } ∧ t.disp = s.disp ∧ t.outputs = s.outputs := by
  have hdown : s.asm.countDown = { s.asm with idleCnt := s.asm.idleCnt - 1 } := by
    rw [Assembler.countDown_eq, if_pos harmed]
  obtain ⟨-, hu⟩ | ⟨hlast, -⟩ | ⟨hlast, -⟩ := assemblerTick_cases { s with schedule := rest }
  · rw [← hdown]
    exact step_tick_assembler hready hsched hu
  all_goals
    obtain ⟨-, hle⟩ := (Assembler.expiring_iff _).mp hlast
    exact absurd hle (Nat.not_le_of_lt hmore)

/-- The timer's last tick discards a partial frame that is no identity frame, and clears the dedupe value (R127). -/
theorem step_tick_discard {s : State} {rest : List Event} (hready : ready s) (hsched : s.schedule = .tick :: rest)
    (harmed : s.asm.idleArmed = true) (hlast : s.asm.idleCnt ≤ 1)
    (hident : ¬(s.asm.identMode = true ∧ s.asm.fill = 4#4)) :
    ∃ t, step s = .next t ∧ ready t ∧ t.schedule = rest ∧ t.asm = { s.asm.expired with fill := 0#4 } ∧
      t.disp = { s.disp with dedupe := Config.noId } ∧ t.outputs = s.outputs := by
  obtain ⟨hmore, -⟩ | ⟨-, hmode, hfill, -⟩ | ⟨-, -, hu⟩ := assemblerTick_cases { s with schedule := rest }
  · exact absurd (s.asm.expiring_iff.mpr ⟨harmed, hlast⟩) (Bool.eq_false_iff.mp hmore)
  · exact absurd ⟨hmode, hfill⟩ hident
  · exact step_tick_assembler hready hsched hu

/-- A partial frame is discarded on the last of its timer's ticks and is left by those before, by induction on their
number. -/
theorem partial_frame_times_out (rest : List Event) :
    ∀ (n : Nat) (s : State), ready s → s.asm.idleArmed = true → s.asm.idleCnt = n + 1 →
      ¬(s.asm.identMode = true ∧ s.asm.fill = 4#4) → s.schedule = List.replicate (n + 1) .tick ++ rest →
      (∃ t, runs (n + 1) s = .next t ∧ t.asm = { s.asm.expired with fill := 0#4 } ∧ t.disp.dedupe = Config.noId ∧
        t.outputs = s.outputs) ∧
      ∀ k, k < n + 1 → ∃ t, runs k s = .next t ∧ t.asm.fill = s.asm.fill ∧ t.asm.idleCnt = n + 1 - k ∧
        t.disp = s.disp := by
  intro n
  induction n with
  | zero =>
    intro s hready harmed hcnt hident hsched
    obtain ⟨t, hstep, -, -, hasm, hdisp, hout⟩ := step_tick_discard hready hsched harmed hcnt.le hident
    refine ⟨⟨t, runs_succ hstep 0, hasm, by rw [hdisp], hout⟩, fun k hk => ?_⟩
    obtain rfl : k = 0 := by omega
    exact ⟨s, rfl, rfl, hcnt, rfl⟩
  | succ n ih =>
    intro s hready harmed hcnt hident hsched
    obtain ⟨u, hstep, hready', hsched', hasm, hdisp, hout⟩ :=
      step_tick_countDown hready hsched harmed (by omega)
    have hcnt' : u.asm.idleCnt = n + 1 := by simp [hasm, hcnt]
    obtain ⟨⟨t, hrun, hasm', hdedupe, hout'⟩, hbefore⟩ :=
      ih u hready' (by rw [hasm]; exact harmed) hcnt' (by rw [hasm]; exact hident) hsched'
    refine ⟨⟨t, (runs_succ hstep _).trans hrun, ?_, hdedupe, hout'.trans hout⟩, fun k hk => ?_⟩
    · rw [hasm', hasm]
      rfl
    · cases k with
      | zero => exact ⟨s, rfl, rfl, hcnt, rfl⟩
      | succ k =>
        obtain ⟨v, hv, hfill, hleft, hsame⟩ := hbefore k (Nat.lt_of_succ_lt_succ hk)
        refine ⟨v, (runs_succ hstep k).trans hv, hfill.trans (by rw [hasm]), by omega, hsame.trans hdisp⟩

/-- Settles O41: the frame's registers after its timer's last tick are those of an expired and empty assembler. -/
theorem partialFrameTimesOut : Obligations.PartialFrameTimesOut := by
  intro s n rest hready harmed hcnt hpos hident hsched
  obtain ⟨n, rfl⟩ := Nat.exists_eq_add_of_le' hpos
  obtain ⟨⟨t, hrun, hasm, hdedupe, hout⟩, hbefore⟩ := partial_frame_times_out rest n s hready harmed hcnt hident hsched
  refine ⟨⟨t, hrun, ?_, ?_, ?_, ?_, hdedupe, hout⟩, hbefore⟩ <;> rw [hasm] <;> rfl

end Sys2Proof.Machine
end

section
/-! What each command does, as a whole next state (42_cmd_addressing.md to 46_system.md), and with that the statements
about single commands. -/

namespace Sys2Proof.Machine

open Sys2Proof.Claims

/-! The shared forms. -/

/-- A command's next state with an OPEN payload, as the statements write it. -/
theorem next_executedOpen (c : Cmd) (s : State) :
    (.next (executedOpen c s) : Result) = .next (openAnswer c s) :=
  congrArg Host.Outcome.next (executedOpen_eq_openAnswer c s)

/-- A command's next state with a given payload, as the statements write it. -/
theorem next_executed (c : Cmd) (p : List Byte) (s : State) :
    (.next (executed c p s) : Result) = .next (answer c p s) :=
  congrArg Host.Outcome.next (executed_eq_answer c p s)

/-- A number that decodes is the action's (R97). -/
theorem withNumber_some {hi lo : Byte} {v : Percent} (h : decode2 hi lo = some v) (s : State)
    (act : Percent → State) : withNumber hi lo s act = .next (act v) := by
  simp only [withNumber, h]

/-- A number that does not decode raises UNDEF_PARAM (R163). -/
theorem withNumber_none {hi lo : Byte} (h : decode2 hi lo = none) (s : State) (act : Percent → State) :
    withNumber hi lo s act = .next { s with fault := some .undefParam } := by
  simp only [withNumber, h, raiseFault]

theorem withScene_some {hi lo : Byte} {k : Fin 5} (h : sceneSlot hi lo = some k) (s : State) (act : Fin 5 → Result) :
    withScene hi lo s act = act k := by
  simp only [withScene, h]

theorem withScene_none {hi lo : Byte} (h : sceneSlot hi lo = none) (s : State) (act : Fin 5 → Result) :
    withScene hi lo s act = .next { s with fault := some .undefParam } := by
  simp only [withScene, h, raiseFault]

/-- Scene n = k + 1 has slot k (R99). -/
theorem sceneSlot_eq_some {hi lo : Byte} {k : Fin 5} (h : (decode2 hi lo).map (·.val) = some (k.val + 1)) :
    sceneSlot hi lo = some k := by
  obtain ⟨n, hn, hval⟩ := Option.map_eq_some_iff.mp h
  have hk := k.isLt
  have hrange : 1 ≤ n.val ∧ n.val ≤ 5 := by omega
  simp only [sceneSlot, hn, dif_pos hrange, Option.some.injEq, Fin.ext_iff]
  omega

theorem sceneSlot_eq_none_of_undef {hi lo : Byte} (h : decode2 hi lo = none) : sceneSlot hi lo = none := by
  simp only [sceneSlot, h]

/-- A scene index of 0 or above 5 has no slot (R99). -/
theorem sceneSlot_eq_none_of_range {hi lo : Byte} {n : Percent} (h : decode2 hi lo = some n)
    (hn : n.val = 0 ∨ 5 < n.val) : sceneSlot hi lo = none := by
  have hrange : ¬(1 ≤ n.val ∧ n.val ≤ 5) := by omega
  simp only [sceneSlot, h, dif_neg hrange]

/-! Two digits. -/

theorem digit_eq_none_iff (c : Byte) : digit c = none ↔ ¬(0x30 ≤ c.toNat ∧ c.toNat ≤ 0x39) := by
  rw [digit, dite_eq_right_iff]
  exact ⟨fun h hc => Option.some_ne_none _ (h hc), fun h hc => absurd hc h⟩

/-- The digit of an ASCII code (R97). -/
theorem digit_ascii (d : Fin 10) : digit (BitVec.ofNat 8 (0x30 + d.val)) = some d := by
  have hd := d.isLt
  have hcode : (BitVec.ofNat 8 (0x30 + d.val)).toNat = 0x30 + d.val := by
    rw [BitVec.toNat_ofNat, Nat.mod_eq_of_lt (by omega)]
  have hrange : 0x30 ≤ (BitVec.ofNat 8 (0x30 + d.val)).toNat ∧ (BitVec.ofNat 8 (0x30 + d.val)).toNat ≤ 0x39 := by
    omega
  rw [digit, dif_pos hrange, Option.some.injEq, Fin.ext_iff]
  simp only [hcode, Nat.add_sub_cancel_left]

/-- Two digits are needed, and enough (R97). -/
theorem decode2_eq_none_iff (hi lo : Byte) : decode2 hi lo = none ↔ digit hi = none ∨ digit lo = none := by
  unfold decode2
  cases digit hi with
  | none => simp
  | some a =>
    cases digit lo with
    | none => simp
    | some b => simp

theorem decode2_digits {hi lo : Byte} {a b : Fin 10} (hhi : digit hi = some a) (hlo : digit lo = some b)
    {v : Percent} (hv : v.val = a.val * 10 + b.val) : decode2 hi lo = some v := by
  simp only [decode2, hhi, hlo, Option.some.injEq, Fin.ext_iff]
  exact hv.symm

/-- Settles O6: the digits of v are its quotient and its remainder by 10. -/
theorem decodeTwoDigits : Obligations.DecodeTwoDigits := by
  refine ⟨fun v => ?_, fun hi lo => ?_⟩
  · have hv := v.isLt
    exact decode2_digits (digit_ascii ⟨v.val / 10, by omega⟩) (digit_ascii ⟨v.val % 10, by omega⟩)
      (Nat.div_add_mod' v.val 10).symm
  · rw [decode2_eq_none_iff, digit_eq_none_iff, digit_eq_none_iff]
    exact not_and_or.symm

/-! Addressing and queries. -/

/-- Settles O1: the lock decides about SET_HOST_ADDR, and RESET_HOST_ADDR does not ask it. -/
theorem hostAddrCommands : Obligations.HostAddrCommands :=
  fun _ a0 a1 a2 a3 addr =>
    ⟨exec_setHostAddr_locked a0 a1 a2 a3 addr, exec_setHostAddr_unlocked a0 a1 a2 a3 addr, next_executedOpen _ _⟩

theorem toList_slots (g : Slots5) : g.toList = [g[0], g[1], g[2], g[3], g[4]] := by
  refine List.ext_getElem (by simp) fun k hk _ => ?_
  have hk5 : k < 5 := by simpa using hk
  interval_cases k <;> simp

/-- The number of slots in use is the size of the set of their indices (R293). -/
theorem groupCount_eq (g : Slots5) :
    groupCount g = BitVec.ofNat 8 (Finset.card (Finset.univ.filter fun k : Fin 5 => g[k] ≠ 0xFF#8)) := by
  rw [groupCount, toList_slots, Finset.card_filter, Fin.sum_univ_five]
  simp only [List.countP_cons, List.countP_nil, Config.groupEmpty, bne_iff_ne, Nat.zero_add]
  ac_rfl

/-- Settles O4: a query's next state is its answer. -/
theorem queriesOnlyAnswer : Obligations.QueriesOnlyAnswer := by
  intro s addr
  rw [← toList_slots, ← groupCount_eq]
  exact ⟨next_executedOpen _ _, next_executedOpen _ _, next_executedOpen _ _, next_executed _ _ _,
    next_executed _ _ _, next_executed _ _ _, next_executed _ _ _, next_executed _ _ _⟩

/-! Numbers. -/

theorem setWidth_percentByte (v : Percent) : (percentByte v).setWidth 16 = BitVec.ofNat 16 v.val := by
  have hv := v.isLt
  apply BitVec.eq_of_toNat_eq
  rw [BitVec.toNat_setWidth, percentByte_toNat, BitVec.toNat_ofNat]

/-- Settles O7: each setter's action is the store of its value. -/
theorem numericSettersStore : Obligations.NumericSettersStore := by
  intro s hi lo addr v hv
  have setter (c : Cmd) (act : Percent → State) :
      withNumber hi lo s (fun p => executedOpen c (act p)) = .next (openAnswer c (act v)) := by
    rw [withNumber_some hv, next_executedOpen]
  refine ⟨setter _ _, setter _ _, setter _ _, setter _ _, ?_, setter _ _⟩
  rw [← setWidth_percentByte]
  exact setter _ _

/-- Settles O8: without a value every such command faults, the scene commands because the index has no slot. -/
theorem nonDigitRaisesUndefParam : Obligations.NonDigitRaisesUndefParam := by
  intro s hi lo addr h
  have number (act : Percent → State) := withNumber_none h s act
  have scene (act : Fin 5 → Result) := withScene_none (sceneSlot_eq_none_of_undef h) s act
  simp only [List.forall_mem_cons]
  exact ⟨number _, number _, number _, number _, number _, number _, number _, scene _, scene _, scene _, scene _,
    number _, nofun⟩

/-! Dimming. -/

/-- `set_level` as the statements write it (R213). -/
theorem setLevel_eq_levelled (p : Percent) (r : Ramp) : r.setLevel p = levelled r p := by
  simp only [Ramp.setLevel, levelled]
  by_cases hsame : dutyMap p = r.currentDuty
  · simp only [hsame, ne_eq, not_true_eq_false, if_false, if_true]
    rfl
  · simp only [hsame, ne_eq, not_false_eq_true, if_false, if_true]
    cases isOff (dutyMap p) <;> simp [percentByte]

/-- Settles O11: SET_LEVEL's action is `set_level`. -/
theorem setLevelStartsRamp : Obligations.SetLevelStartsRamp := by
  intro s hi lo addr p hp
  rw [← setLevel_eq_levelled, ← next_executedOpen]
  exact withNumber_some hp s _

/-! Occupancy. -/

/-- Settles O16: each action is the listed writes alone, and the answer is computed from the state they leave. -/
theorem sensorAndRelayCommands : Obligations.SensorAndRelayCommands :=
  fun _ _ => ⟨next_executedOpen _ _, next_executedOpen _ _, next_executedOpen _ _, next_executedOpen _ _⟩

/-- Settles O17: both commands answer from the state their clears leave. -/
theorem samplerCommands : Obligations.SamplerCommands :=
  fun _ _ => ⟨next_executedOpen _ _, next_executedOpen _ _⟩

/-! Registry. -/

/-- The next group slot, circularly (R290). -/
theorem nextSlot_eq {wp : BitVec 3} (h : wp.toNat < 5) :
    BitVec.ofNat 3 ((wp.toNat + 1) % Config.groupSlots) = if wp.toNat = 4 then 0#3 else wp + 1#3 := by
  split_ifs with hlast
  · rw [hlast]
    rfl
  · have hslots : Config.groupSlots = 5 := rfl
    rw [hslots, Nat.mod_eq_of_lt (by omega)]
    bv_omega

/-- Settles O23: below 5 the pointer's successor modulo 5 is the circular one. -/
theorem setGroupInsertsCircularly : Obligations.SetGroupInsertsCircularly := by
  intro s hi lo addr v hv hwp
  rw [← nextSlot_eq hwp, ← next_executedOpen]
  exact withNumber_some hv s _

/-- Settles O24: both commands answer from the state with their registers empty. -/
theorem clearGroupAndLis : Obligations.ClearGroupAndLis :=
  fun _ _ => ⟨next_executedOpen _ _, next_executedOpen _ _⟩

theorem set_eq_setIfInBounds (s : Slots5) (k : Fin 5) (v : Byte) : s.set k v = s.setIfInBounds k.val v :=
  Vector.ext fun j hj => by rw [Vector.getElem_set, Vector.getElem_setIfInBounds hj]

/-- Settles O25: the three commands act on the slot of the decoded index. -/
theorem sceneCommands : Obligations.SceneCommands := by
  intro s hi lo addr k hk
  have hslot := sceneSlot_eq_some hk
  rw [← set_eq_setIfInBounds, ← set_eq_setIfInBounds, ← next_executedOpen, ← next_executed, ← next_executedOpen]
  exact ⟨withScene_some hslot s _, withScene_some hslot s _, withScene_some hslot s _⟩

/-- A slot below 99 is recalled as its level (R296). -/
theorem recallScene_level {v : Byte} {p : Percent} (hp : p.val < 99) (hv : v.toNat = p.val) (s : State) :
    recallScene v s = some { s with ramp := levelled s.ramp p } := by
  obtain ⟨rfl, -⟩ | ⟨-, hlt, h⟩ | ⟨hle, -⟩ := recallScene_cases v s
  · have hunset : Config.sceneUnset.toNat = 99 := rfl
    omega
  · have hlevel : (⟨v.toNat, hlt⟩ : Percent) = p := Fin.ext hv
    rw [h, hlevel, setLevel_eq_levelled]
  · omega

/-- A slot of 99 is unset, and recalled without a change (R296). -/
theorem recallScene_unset {v : Byte} (hv : v.toNat = 99) (s : State) : recallScene v s = some s :=
  if_pos (BitVec.eq_of_toNat_eq hv)

/-- A slot above 99 has no level (R296). -/
theorem recallScene_corrupt {v : Byte} (hv : 99 < v.toNat) (s : State) : recallScene v s = none := by
  obtain ⟨rfl, -⟩ | ⟨-, hlt, -⟩ | ⟨-, h⟩ := recallScene_cases v s
  · exact absurd hv (by decide)
  · omega
  · exact h

theorem exec_gotoScene_some {hi lo : Byte} {k : Fin 5} {s t : State} (hslot : sceneSlot hi lo = some k)
    (h : recallScene s.conf.scenes[k] s = some t) (addr : Byte) :
    exec (.gotoScene hi lo addr) s = .next (openAnswer .gotoScene t) := by
  simp only [exec, execGotoScene, withScene_some hslot, h, next_executedOpen]

theorem exec_gotoScene_none {hi lo : Byte} {k : Fin 5} {s : State} (hslot : sceneSlot hi lo = some k)
    (h : recallScene s.conf.scenes[k] s = none) (addr : Byte) :
    exec (.gotoScene hi lo addr) s = .next { s with fault := some .undefParam } := by
  simp only [exec, execGotoScene, withScene_some hslot, h, raiseFault]

/-- Settles O26: the command does with the slot's value what recalling it gives. -/
theorem gotoSceneRecalls : Obligations.GotoSceneRecalls := by
  intro s hi lo addr k hk
  have hslot := sceneSlot_eq_some hk
  exact ⟨fun p hp hv => exec_gotoScene_some hslot (recallScene_level hp hv s) addr,
    fun hv => exec_gotoScene_some hslot (recallScene_unset hv s) addr,
    fun hv => exec_gotoScene_none hslot (recallScene_corrupt hv s) addr⟩

/-- Settles O27: without a slot the four commands fault. -/
theorem sceneIndexOutOfRangeRaises : Obligations.SceneIndexOutOfRangeRaises := by
  intro s hi lo addr n hn hrange
  have scene (act : Fin 5 → Result) := withScene_none (sceneSlot_eq_none_of_range hn hrange) s act
  simp only [List.forall_mem_cons]
  exact ⟨scene _, scene _, scene _, scene _, nofun⟩

/-! Store and system. -/

/-- Two bytes as one number, high byte first (R43). -/
theorem append_toNat (high low : Byte) : (high ++ low : Half).toNat = high.toNat * 256 + low.toNat := by
  have hlow := low.isLt
  rw [BitVec.toNat_append, ← Nat.shiftLeft_add_eq_or_of_lt hlow, Nat.shiftLeft_eq]

/-- The image holds each field of the mirror at its offset (R43, R44). -/
theorem laidOut_imageOf (c : Persistent) : laidOut c (imageOf c) := by
  have delay : (highByte c.fadeDelay).toNat * 256 + (lowByte c.fadeDelay).toNat = c.fadeDelay.toNat := by
    rw [← append_toNat, highByte_append_lowByte]
  refine ⟨rfl, rfl, fun k => ?_, fun k => ?_, rfl, rfl, delay, rfl, fun k => ?_, fun k => ?_, rfl, rfl⟩ <;>
    fin_cases k <;> rfl

/-- Settles O28: a commit carries the image of the mirror, which for FACTORY_RESET is already that of the defaults. -/
theorem emittingCommands : Obligations.EmittingCommands :=
  fun s _ => ⟨laidOut_imageOf s.conf, laidOut_imageOf s.cfg.defaults, next_executedOpen _ _, next_executedOpen _ _,
    next_executedOpen _ _⟩

end Sys2Proof.Machine
end

section
/-! One scheduled event, as a whole next state (40_frame_assembler.md, 41_dispatcher.md, 44_occupancy.md), and with that
the statements about single steps. -/

namespace Sys2Proof.Machine

open Sys2Proof.Claims

/-! Stops and waits. -/

/-- Settles O29: the mark is the command's only write, and it is what the next step reads. -/
theorem unnamedCommandIsRefused : Obligations.UnnamedCommandIsRefused := by
  refine fun s addr => ⟨rfl, fun hwf hfault => ?_⟩
  simp only [step, guardedNext, hwf, hfault, if_true]

/-- Settles O37: a step looks at the configuration, then at the fault, then at the refusal. -/
theorem markedStateHasNoStep : Obligations.MarkedStateHasNoStep := by
  refine ⟨fun s r hwf hfault => ?_, fun s r hwf hfault hrefused => ?_, fun s hwf => ?_⟩
  · simp only [step, guardedNext, hwf, hfault, if_true]
  · simp only [step, guardedNext, hwf, hfault, hrefused, if_true]
  · simp only [step, guardedNext, hwf, if_neg Bool.false_ne_true]

/-- Settles O36: each of the three waits falsifies one of the conditions. -/
theorem dispatchWaits : Obligations.DispatchWaits := by
  refine ⟨dispatchEnabled_iff, fun s ⟨hwf, hfault, hrefused⟩ hevent hwaits => ?_⟩
  have disabled : ¬dispatchEnabled (takeEvent s) = true := by
    rw [dispatchEnabled_iff]
    rintro ⟨hpending, hidle, hrest, -⟩
    obtain hnone | hresp | hbusy := hwaits
    · exact Bool.eq_false_iff.mp hnone hpending
    · cases hidle.symm.trans hresp
    · exact hbusy hrest
  rw [step_eq_runNext hwf hfault hrefused, runNext, hevent]
  exact if_neg disabled

/-- Settles O31: of the four outcomes of a `Dispatch` the frame's address, row and id leave the execution. -/
theorem stepRunsDecodedFrame : Obligations.StepRunsDecodedFrame := by
  intro s i hdispatching haddr hdecode hnew
  obtain ⟨row, hrow, rfl⟩ := decodeFrame_eq_ok_iff.mp hdecode
  rw [step_eq_dispatchFrame hdispatching]
  obtain ⟨hrefused, -⟩ | ⟨-, hnone, -⟩ | ⟨t, -, hmatch, hduplicate, -⟩ | ⟨t, -, hmatch, -, hexec⟩ :=
    dispatchFrame_cases (takeEvent s)
  · exact absurd haddr (Bool.eq_false_iff.mp hrefused)
  · cases hnone.symm.trans hrow
  · cases hmatch.symm.trans hrow
    exact absurd hduplicate (hnew _ (Instr.ofFrame_cmd _ _))
  · cases hmatch.symm.trans hrow
    exact hexec

/-- Settles O43: the entry hands over what the dispatcher holds, and is no event while it is Idle. -/
theorem respReadyHandsOver : Obligations.RespReadyHandsOver := by
  intro s rest hready hsched
  refine ⟨fun r hwait hheld => ?_, fun hidle => ?_⟩
  · rw [step_of_schedule hready hsched]
    simp only [perform, hwait, if_true, handResp, hheld, respOutput]
  · rw [step_of_schedule hready hsched]
    simp only [perform, hidle, reduceCtorEq, if_false]

/-! Received bytes. -/

/-- The reserved values are the four of R92. -/
theorem isFiltered_iff (b : Byte) :
    isFiltered b = true ↔ b.toNat = 0 ∨ b.toNat = 10 ∨ b.toNat = 13 ∨ b.toNat = 255 := by
  simp only [isFiltered, Bool.or_eq_true, beq_iff_eq, BitVec.toNat_eq, or_assoc]
  rfl

/-- A step that takes a scheduled byte the filter passes (R120). -/
theorem step_rxByte {s : State} {b : Byte} {rest : List Event} (hready : ready s)
    (hsched : s.schedule = .rxByte b :: rest) (hb : isFiltered b = false) :
    step s = .next { s with schedule := rest, asm := s.asm.accept s.cfg b } := by
  rw [step_of_schedule hready hsched]
  simp only [perform, rxByte, hb, if_neg Bool.false_ne_true]

/-- Settles O38: the filter drops exactly these bytes. -/
theorem filteredByteChangesNothing : Obligations.FilteredByteChangesNothing := by
  intro s b rest hready hsched hb
  rw [step_of_schedule hready hsched]
  simp only [perform, rxByte, (isFiltered_iff b).mpr hb, if_true]

/-- Settles O39: of the three cases of an accepted byte, the two that do not complete the frame. -/
theorem acceptedByteStored : Obligations.AcceptedByteStored := by
  intro s b rest hready hsched hb
  rw [step_rxByte hready hsched hb]
  obtain ⟨h0, ha⟩ | ⟨h7, -⟩ | ⟨h0, -, ha⟩ := s.asm.accept_cases s.cfg b
  · refine ⟨fun _ => ?_, fun hpos => ?_⟩
    · rw [ha, h0]
      rfl
    · simp [h0] at hpos
  · exact ⟨fun h0 => absurd (h7.symm.trans h0) (by decide), fun _ hlt => by simp [h7] at hlt⟩
  · exact ⟨fun h => absurd h h0, fun _ _ => by rw [ha]⟩

/-- Settles O40: at fill 7 an accepted byte completes the frame, which is handed off or lost, and the timer's end is the
parameter's choice. -/
theorem eighthByteCompletes : Obligations.EighthByteCompletes := by
  intro s b rest hready hsched hb hfill
  have hcomplete : s.asm.accept s.cfg b =
      Assembler.complete s.cfg { s.asm with fbuf := s.asm.fbuf.setIfInBounds 7 b } := by
    obtain ⟨h0, -⟩ | ⟨-, ha⟩ | ⟨-, h7, -⟩ := s.asm.accept_cases s.cfg b
    · exact absurd (hfill.symm.trans h0) (by decide)
    · have hseven : s.asm.fill.toNat = 7 := by rw [hfill, BitVec.toNat_ofNat]
      rw [ha, hseven]
    · exact absurd hfill h7
  refine ⟨_, step_rxByte hready hsched hb, ?_⟩
  rw [hcomplete]
  obtain ⟨hexpiry, hc⟩ | ⟨hexpiry, hc⟩ :=
    Assembler.complete_cases s.cfg { s.asm with fbuf := s.asm.fbuf.setIfInBounds 7 b } <;> rw [hc]
  · exact ⟨rfl, rfl, rfl, rfl, rfl, fun hfree => if_neg (Bool.eq_false_iff.mp hfree), fun hheld => if_pos hheld,
      fun _ => ⟨rfl, rfl⟩, fun hrun => absurd (hexpiry.symm.trans hrun) nofun⟩
  · exact ⟨rfl, rfl, rfl, rfl, rfl, fun hfree => if_neg (Bool.eq_false_iff.mp hfree), fun hheld => if_pos hheld,
      fun hdisarm => absurd (hexpiry.symm.trans hdisarm) nofun, fun _ => ⟨rfl, rfl⟩⟩

/-- Settles O42: the event's operation is that one write. -/
theorem identRequestAwaits : Obligations.IdentRequestAwaits :=
  fun _ _ hready hsched => step_of_schedule hready hsched

/-! Ticks. -/

/-- Settles O30: the delivery is these two writes and the recorded output. -/
theorem identityFrameDelivered : Obligations.IdentityFrameDelivered :=
  fun _ _ _ _ _ => rfl

/-- Settles O32: the expiry finds an identity frame, runs it, and the other parts of the tick follow. -/
theorem stepRunsIdentityFrame : Obligations.StepRunsIdentityFrame := by
  intro s rest hready hsched hmode hfill harmed hlast
  obtain ⟨hmore, -⟩ | ⟨-, -, -, hu⟩ | ⟨-, hno, -⟩ := assemblerTick_cases { s with schedule := rest }
  · exact absurd (s.asm.expiring_iff.mpr ⟨harmed, hlast⟩) (Bool.eq_false_iff.mp hmore)
  · exact ⟨_, _, rfl, rfl, step_tick_eq hready hsched hu⟩
  · exact absurd ⟨hmode, hfill⟩ hno

/-- Settles O18: the two cases of a motion edge. -/
theorem motionEdge : Obligations.MotionEdge := by
  intro s rest hready hsched
  rw [step_of_schedule hready hsched]
  simp only [perform, Host.Outcome.next.injEq]
  obtain ⟨hoff, hm⟩ | ⟨harmed, hm⟩ := motion_cases { s with schedule := rest }
  · exact ⟨fun _ => hm, fun harmed => absurd (hoff.symm.trans harmed) nofun⟩
  · exact ⟨fun hoff => absurd (harmed.symm.trans hoff) nofun, fun _ => hm⟩

/-- A scheduled tick ends with the occupancy unit's part, on a state whose ramp is ticked and whose configuration and
occupancy registers are those before the tick (R351). -/
theorem step_tick_occupancy {s : State} {rest : List Event} (hready : ready s) (hsched : s.schedule = .tick :: rest) :
    ∃ u, step s = .next (occupancyTick u) ∧ u.cfg = s.cfg ∧ u.conf = s.conf ∧ u.occ = s.occ ∧
      u.ramp = s.ramp.tick s.conf.fadeRate (s.cfg.fadeDelayTicks s.conf.fadeDelay) := by
  obtain ⟨_, _, _, hu⟩ := assemblerTick_eq { s with schedule := rest }
  exact ⟨_, step_tick_eq hready hsched hu, rfl, rfl, rfl, rfl⟩

/-- The sampler, which has the last part of a tick, leaves the two minute counters and the FSM's state (R257). -/
theorem occupancyTick_minute (s : State) :
    (occupancyTick s).occ.minutePresc = (minuteTick s).occ.minutePresc ∧
      (occupancyTick s).occ.timeoutTicks = (minuteTick s).occ.timeoutTicks ∧
      (occupancyTick s).occ.sensorEnabled = (minuteTick s).occ.sensorEnabled ∧
      (occupancyTick s).ramp = (minuteTick s).ramp := by
  obtain ⟨_, _, _, hsample⟩ :=
    (minuteTick s).occ.sampleTick_eq ((minuteTick s).cfg.sampleWindowTicks (minuteTick s).conf.sensingPeriod)
  rw [occupancyTick, samplerTick, hsample]
  exact ⟨rfl, rfl, rfl, rfl⟩

/-- The minute part of a tick leaves what the sampler reads and writes (R256). -/
theorem occupancyTick_sampler (s : State) :
    ∃ presc timeout,
      (occupancyTick s).occ =
        { s.occ with minutePresc := presc, timeoutTicks := timeout }.sampleTick
          (s.cfg.sampleWindowTicks s.conf.sensingPeriod) := by
  obtain ⟨presc, timeout, _, hminute⟩ := minuteTick_writes s
  refine ⟨presc, timeout, ?_⟩
  rw [occupancyTick, samplerTick_occ, hminute]

/-- Settles O19: of the cases of the minute's tick, the two of a wrap while Armed. -/
theorem minuteEventTimesOut : Obligations.MinuteEventTimesOut := by
  intro s rest hready hsched harmed hwraps
  obtain ⟨u, hstep, hcfg, hconf, hocc, hramp⟩ := step_tick_occupancy hready hsched
  refine ⟨_, hstep, ?_⟩
  obtain ⟨hpresc, htimeout, henabled, hramp'⟩ := occupancyTick_minute u
  rw [hpresc, htimeout, henabled, hramp']
  rw [← hocc] at harmed
  rw [← hocc, ← hcfg] at hwraps
  have htarget : u.ramp.targetDuty = s.ramp.targetDuty := by rw [hramp, Ramp.tick_targetDuty]
  rw [← hocc, ← hconf]
  obtain ⟨hlt, -⟩ | ⟨-, hoff, -⟩ | ⟨-, -, hlimit, hm⟩ | ⟨-, -, hbelow, hm⟩ := minuteTick_cases u
  · exact absurd hwraps (Nat.not_le_of_lt hlt)
  · cases harmed.symm.trans hoff
  · rw [hm]
    exact ⟨rfl, harmed, htarget, fun _ => ⟨rfl, rfl⟩, fun hbelow => absurd hlimit (Nat.not_le_of_lt hbelow)⟩
  · rw [hm]
    refine ⟨rfl, harmed, htarget, fun hlimit => absurd hlimit (Nat.not_le_of_lt hbelow), fun _ => ?_⟩
    have hmax := u.conf.maxTimeout.isLt
    simp only
    bv_omega

/-- Settles O20: the cases of the minute's tick; only that of a timeout and the end of a ramp to off reach the load. -/
theorem minuteCounterHolds : Obligations.MinuteCounterHolds := by
  intro s rest hready hsched
  obtain ⟨u, hstep, hcfg, hconf, hocc, hramp⟩ := step_tick_occupancy hready hsched
  refine ⟨_, hstep, ?_⟩
  obtain ⟨hpresc, htimeout, -, hramp'⟩ := occupancyTick_minute u
  have hduty : (minuteTick u).ramp.currentDuty = u.ramp.currentDuty := by
    obtain ⟨_, _, _, hm⟩ := minuteTick_writes u
    rw [hm]
  rw [← hocc, ← hcfg, ← hconf, hpresc, htimeout, hramp']
  have hload (hnoEnd : ¬(s.ramp.currentDuty ≠ s.ramp.targetDuty ∧
      (minuteTick u).ramp.currentDuty = s.ramp.targetDuty ∧ isOff s.ramp.targetDuty = true)) :
      u.ramp.loadOn = s.ramp.loadOn := by
    rw [hduty, hramp] at hnoEnd
    rw [hramp]
    exact Ramp.tick_loadOn hnoEnd
  obtain ⟨hlt, hm⟩ | ⟨hwraps, hoff, hm⟩ | ⟨hwraps, harmed, hlimit, hm⟩ | ⟨hwraps, harmed, hbelow, hm⟩ :=
    minuteTick_cases u <;> rw [hm] at hload ⊢
  · exact ⟨fun _ => ⟨rfl, rfl⟩, fun hwraps => absurd hwraps (Nat.not_le_of_lt hlt), fun _ => rfl,
      fun _ hnoEnd => hload hnoEnd⟩
  · exact ⟨fun hlt => absurd hwraps (Nat.not_le_of_lt hlt), fun _ => rfl, fun _ => rfl,
      fun _ hnoEnd => hload hnoEnd⟩
  · exact ⟨fun hlt => absurd hwraps (Nat.not_le_of_lt hlt), fun _ => rfl,
      fun hoff => absurd (harmed.symm.trans hoff) nofun,
      fun hnoTimeout => absurd ⟨harmed, hwraps, hlimit⟩ hnoTimeout⟩
  · exact ⟨fun hlt => absurd hwraps (Nat.not_le_of_lt hlt), fun _ => rfl,
      fun hoff => absurd (harmed.symm.trans hoff) nofun, fun _ hnoEnd => hload hnoEnd⟩

/-- The presence count after a window's end: one more, 254 wrapping to 0, if the window saw motion (R257). -/
theorem Occupancy.windowEnd_count {o : Occupancy} (h : o.presentCount.toNat ≤ 254) :
    o.windowEnd.presentCount.toNat =
      if o.motionFlag then (if o.presentCount.toNat = 254 then 0 else o.presentCount.toNat + 1)
      else o.presentCount.toNat := by
  have hbumped := bumpCount_toNat h
  rw [Occupancy.windowEnd_eq]
  split_ifs with hmotion hlast
  · simp only [hbumped, hlast]
  · simp only [hbumped]
    omega
  · rfl

end Sys2Proof.Machine

namespace Sys2Proof.Claims

open Sys2Proof.Machine

/-- Settles O21: the three cases of the sampler's tick. In `Machine` this name is that of the model's operation. -/
theorem samplerTick : Obligations.SamplerTick := by
  intro s rest hready hsched hcount
  obtain ⟨u, hstep, hcfg, hconf, hocc, -⟩ := step_tick_occupancy hready hsched
  obtain ⟨presc, timeout, hsampled⟩ := occupancyTick_sampler u
  refine ⟨_, hstep, ?_⟩
  rw [hsampled, hocc, hcfg, hconf]
  obtain ⟨hoff, ht⟩ | ⟨hon, hmore, ht⟩ | ⟨hon, hends, ht⟩ :=
    Occupancy.sampleTick_cases (s.cfg.sampleWindowTicks s.conf.sensingPeriod)
      { s.occ with minutePresc := presc, timeoutTicks := timeout } <;> rw [ht]
  · exact ⟨rfl, fun _ => ⟨rfl, rfl, rfl⟩, fun hon => absurd (hoff.symm.trans hon) nofun,
      fun hon => absurd (hoff.symm.trans hon) nofun⟩
  · exact ⟨rfl, fun hoff => absurd (hon.symm.trans hoff) nofun, fun _ _ => ⟨rfl, rfl, rfl⟩,
      fun _ hends => absurd hends (Nat.not_le_of_lt hmore)⟩
  · refine ⟨?_, fun hoff => absurd (hon.symm.trans hoff) nofun,
      fun _ hmore => absurd hends (Nat.not_le_of_lt hmore), fun _ _ => ⟨?_, ?_, ?_⟩⟩
    · rw [Occupancy.windowEnd_eq]
    · rw [Occupancy.windowEnd_eq]
    · rw [Occupancy.windowEnd_eq]
    · exact Occupancy.windowEnd_count hcount

end Sys2Proof.Claims
end

section
/-! The state after reset and the load of the image, field by field (70_reset_and_hazards.md R370, R372), and with that
the two statements about them. -/

namespace Sys2Proof

/-- An address takes its default when all its four characters are erased (R372). -/
theorem loadAddr_eq (dflt : Addr4) (a0 a1 a2 a3 : Byte) :
    loadAddr dflt #v[a0, a1, a2, a3] =
      if a0 = 0xFF#8 ∧ a1 = 0xFF#8 ∧ a2 = 0xFF#8 ∧ a3 = 0xFF#8 then dflt else #v[a0, a1, a2, a3] := by
  simp [loadAddr, Config.erased]

/-- A written flag is clear exactly when its byte is 0 (R44, R372). -/
theorem loadBit_eq_false_iff {b : Byte} (dflt : Bool) (h : b ≠ Config.erased) : loadBit dflt b = false ↔ b = 0x00#8 := by
  rw [loadBit, if_neg h]
  simp

/-- A written fade delay is its two bytes, high byte first (R372). -/
theorem loadHalf_toNat {high low : Byte} (dflt : Half) (h : ¬(high = Config.erased ∧ low = Config.erased)) :
    (loadHalf dflt high low).toNat = high.toNat * 256 + low.toNat := by
  rw [loadHalf, if_neg h, Machine.append_toNat]

/-- Each group slot is loaded from its own byte (R43, R372). -/
theorem loadImage_groups (d : Persistent) (img : Image) (k : Fin 5) :
    (loadImage d img).groups[k] = if img[15 + k.val] = 0xFF#8 then d.groups[k] else img[15 + k.val] := by
  fin_cases k <;> rfl

/-- Each scene slot is loaded from its own byte (R43, R372). -/
theorem loadImage_scenes (d : Persistent) (img : Image) (k : Fin 5) :
    (loadImage d img).scenes[k] = if img[20 + k.val] = 0xFF#8 then d.scenes[k] else img[20 + k.val] := by
  fin_cases k <;> rfl

end Sys2Proof

namespace Sys2Proof.Machine

/-- Settles O55: each field's load, by the form of the field. -/
theorem loadFieldByField : Obligations.LoadFieldByField := by
  intro d img
  exact ⟨rfl, rfl, loadAddr_eq _ _ _ _ _, loadAddr_eq _ _ _ _ _, fun h => if_pos h,
    fun h => loadBit_eq_false_iff _ h, rfl, fun h => if_pos h, fun h => loadHalf_toNat _ h, rfl, loadImage_groups d img,
    loadImage_scenes d img, fun h => if_pos h, fun h => loadBit_eq_false_iff _ h, rfl⟩

/-- Settles O54: reset writes each register, and whether it marks a refusal depends on the configuration alone. -/
theorem resetValues : Obligations.ResetValues :=
  ⟨rfl, fun _ _ => ⟨rfl, rfl, rfl, rfl, rfl, rfl, rfl, rfl, rfl, rfl, rfl, rfl, rfl, fun hwf => if_pos hwf,
    fun hill => if_neg (Bool.eq_false_iff.mp hill)⟩⟩

end Sys2Proof.Machine
end
